-- ==== Sys2Proof/Word.lean ====
section
/-! DEFINITION. The plain word types of the GL46: a byte, a 40-bit physical address, a tick of part time.
Everything the manual counts (durations, rates, marks, tallies) is a `Nat`; only what it treats as bits is a bit vector. -/

namespace Sys2Proof

/-- One byte of the memory path, of a record, or of a stamp (section 0.6). -/
abbrev Byte := BitVec 8

/-- A 40-bit physical address (section 0.6). -/
abbrev Addr := BitVec 40

/-- A part time: a count of ticks modulo 2^32 (section 0.6, R33). -/
abbrev Tick := BitVec 32

end Sys2Proof
end

