-- ==== Sys2Proof/Syntax.lean ====
section
/-! DEFINITION. The commands of the GL46: one constructor of `Instr` for every row of spec/opcode_table.json.
A command is one step of the part, whole and indivisible (95_what_each_step_holds.md). The rows that are
observed writes carry the whole write transaction (R18); what it does is decided by where its bytes fall. -/

namespace Sys2Proof

/-- The response status of a transaction (R18). -/
inductive Status where
  | ok
  | error
  deriving DecidableEq, Repr

/-- One byte position of a write: its data and its strobe (R18). -/
structure Lane where
  data : Byte
  strobe : Bool
  deriving DecidableEq, Repr

/-- A write transaction (R18): its start address, its 1..256 consecutive byte positions, the requester tag, and the
status the DRAM controller answers it with (R28: that status changes nothing the part takes from the write). -/
structure BusWrite where
  addr : Addr
  tag : Byte
  lanes : List Lane
  status : Status := .ok
  deriving DecidableEq, Repr

/-- A read response (R18): the read's start address, tag, the DRAM controller's 1..256 data bytes and its one status.
`spansReset`: PIF received some beat of it while RST was asserted (R32). -/
structure ReadResponse where
  addr : Addr
  tag : Byte
  data : List Byte
  status : Status := .ok
  spansReset : Bool := false
  deriving DecidableEq, Repr

/-- The four record positions of the control area, numbered 0..3 in this order (R131). -/
inductive Position where
  | setup
  | ladder
  | windows
  | directive
  deriving DecidableEq, Repr

/-- The commands: one constructor per row of spec/opcode_table.json, in the table's order. -/
inductive Instr where
  /-- HARDWARE_RESET (R32): assertion of RST. -/
  | hardwareReset
  /-- RST_RELEASE (R32): release of RST, with the tie-offs sampled then (section 2.8). -/
  | rstRelease (pageBase : BitVec 28) (prescaler : BitVec 16) (revision : Byte)
  /-- TICK (R33): the REFCLK periods up to and including the next tick of part time. -/
  | tick
  /-- FILL_WRITE (R38): an observed write by the copy engine. -/
  | fillWrite (w : BusWrite)
  /-- DRAIN_READ (R47): a read response to the decoder. -/
  | drainRead (r : ReadResponse)
  /-- HEADER_LINE_READ (R153): a read response touching the report's header line. -/
  | headerLineRead (r : ReadResponse)
  /-- SETUP (R138): a write to the SETUP position. -/
  | setup (w : BusWrite)
  /-- LADDER (R81): a write to the LADDER position. -/
  | ladder (w : BusWrite)
  /-- WINDOWS (R141): a write to the WINDOWS position. -/
  | windows (w : BusWrite)
  /-- DIRECTIVE (R142): a write to the DIRECTIVE position. -/
  | directive (w : BusWrite)
  /-- ARM (R6): the directive, at its entry index. -/
  | arm (entry : Fin 6)
  /-- SUSPEND (R8). -/
  | suspend (entry : Fin 6)
  /-- RESUME (R9). -/
  | resume (entry : Fin 6)
  /-- FLUSH (R11). -/
  | flush
  /-- TEARDOWN (R10). -/
  | teardown (entry : Fin 6)
  /-- RESTART (R12). -/
  | restart
  /-- SEED (R70), with its argument. -/
  | seed (rate : BitVec 32)
  /-- CLEAR_TALLIES (R151). -/
  | clearTallies
  /-- ACK (R147), with its argument. -/
  | ack (mask : BitVec 32)
  /-- ENABLE (R148), with its argument. -/
  | enable (mask : BitVec 32)
  /-- UNKNOWN_DIRECTIVE (R142): an entry whose code is 11..255. -/
  | unknownDirective (code : Byte) (entry : Fin 6)
  /-- REQUEST_HALF_WRITE (R91): a write to a request half that does not strobe its byte 0. -/
  | requestHalfWrite (w : BusWrite)
  /-- ENTRY_CLEAR (R92): a closing write of stamp 0. -/
  | entryClear (w : BusWrite)
  /-- FETCH (R97): a closing write of a FETCH request. -/
  | fetch (w : BusWrite)
  /-- LENGTH (R108): a closing write of a LENGTH request. -/
  | length (w : BusWrite)
  /-- DROP (R109): a closing write of a DROP request. -/
  | drop (w : BusWrite)
  /-- REPLACE (R110): a closing write of a REPLACE request. -/
  | replace (w : BusWrite)
  /-- UNKNOWN_KIND (R93): a closing write whose kind is 0 or 5..255. -/
  | unknownKind (w : BusWrite)
  /-- PLAIN_WRITE (R21): a write that hands nothing to any block. -/
  | plainWrite (w : BusWrite)
  /-- SETTLE_EXPIRY (R136): the expiry of a position's settle timer. -/
  | settleExpiry (p : Position)
  /-- STALL_EXPIRY (R124): the expiry of a slot's stall timer. -/
  | stallExpiry (n : Fin 8)
  /-- CHECK_EXPIRY (R120): the expiry of a slot's check timer. -/
  | checkExpiry (n : Fin 8)
  /-- GRACE_EXPIRY (R126): the expiry of a slot's grace timer. -/
  | graceExpiry (n : Fin 8)
  /-- CLOSING_WRITE_SAME_STAMP (R92): a closing write whose stamp equals the entry stamp. -/
  | closingWriteSameStamp (w : BusWrite)
  /-- REFCLK_PERIOD (R33): one REFCLK period. -/
  | refclkPeriod
  deriving DecidableEq, Repr

end Sys2Proof
end

