-- ==== Sys2Proof/Config.lean ====
section
/-! DEFINITION. The settings a control record gives the part (SETUP, LADDER, WINDOWS), and the values the manual
leaves open, each an opaque constant that no proof can see into (notes/assumptions/7.md, 8.md and 9.md). -/

namespace Sys2Proof

/-- The 24 fields of the SETUP record, in the field order of section 10.1.1. At `Nat` it is an adopted SETUP (R140). -/
structure SettingsOf (α : Type) where
  /-- 0 ADAPTIVE, 1 PINNED -/
  mode : α
  pinnedRung : α
  startRung : α
  capRung : α
  /-- shift a_f of the fast estimate -/
  shiftFast : α
  /-- shift a_s of the slow estimate -/
  shiftSlow : α
  /-- D_min -/
  dwellMin : α
  /-- W -/
  warmupLength : α
  /-- 0 disabled, 1 enabled -/
  abandonEnable : α
  /-- σ -/
  sigma : α
  /-- σ_c -/
  sigmaCongested : α
  /-- ρ_in -/
  rhoIn : α
  /-- ρ_out -/
  rhoOut : α
  /-- gap limit G, ms -/
  gapLimit : α
  /-- T_stall, ms -/
  stallTime : α
  /-- C, ms -/
  checkTime : α
  /-- ms -/
  guard : α
  /-- ms -/
  graceTime : α
  /-- kbit/s -/
  seed : α
  /-- minimum sample size, bytes -/
  minSample : α
  /-- B_panic, ms -/
  bPanic : α
  /-- B_up, ms -/
  bUp : α
  /-- B_target, ms -/
  bTarget : α
  /-- B_full, ms -/
  bFull : α
  deriving DecidableEq, Repr, Inhabited

/-- The adopted SETUP content (R131). -/
abbrev Setup := SettingsOf Nat

/-- One rung of the ladder: nominal rate in kbit/s and signed trim (R79). -/
structure Rung where
  nominal : Nat
  trim : Int
  deriving DecidableEq, Repr, Inhabited

/-- The adopted ladder: its N rungs, lowest first (R79). -/
structure Ladder where
  rungs : List Rung
  deriving DecidableEq, Repr, Inhabited

/-- The adopted WINDOWS content (R141). -/
structure Windows where
  fillValue : Byte
  fillMask : Byte
  drainValue : Byte
  drainMask : Byte
  /-- buffer low bound, a 40-bit address -/
  low : Nat
  /-- buffer high bound, a 40-bit address -/
  high : Nat
  /-- maximum capacity per slot, bytes -/
  maxCapacity : Nat
  deriving DecidableEq, Repr, Inhabited

namespace Config

/-- The duration of every settle timer, in ms (R131, R136). -/
def settleTime : Nat := 16

/-- The largest gap limit, at which the measured silence of a fetch saturates, in ms (R61). -/
def longestGap : Nat := 2000

/-- FREE VALUE (notes/assumptions/7.md): the safety factor a snapshot uses for S while no SETUP is adopted.
The manual gives S for that case only when the estimates are 0 (R77). -/
opaque freeSigma : Nat → Nat

/-- FREE VALUE (notes/assumptions/8.md): which of several settle timers that expire at one tick is taken last. -/
opaque freeLastSettle : Nat → Nat

/-- FREE VALUE (notes/assumptions/9.md): what a reading of an absent SETUP would give. No reachable state reads it. -/
opaque unadoptedSetup : Setup

/-- FREE VALUE (notes/assumptions/9.md): what a reading of an absent ladder would give. No reachable state reads it. -/
opaque unadoptedLadder : Ladder

/-- FREE VALUE (notes/assumptions/9.md): what a reading of absent WINDOWS would give. No reachable state reads it. -/
opaque unadoptedWindows : Windows

end Config

end Sys2Proof
end

