-- ==== Sys2Proof/Machine/State.lean ====
section
/-! DEFINITION. The state of the GL46, block by block as section 0.3 lists them, and the state at hardware reset.
All of it is plain data. Fields that the manual does not name are marked MODEL. -/

namespace Sys2Proof.Machine

/-- A byte buffer of the part: (offset, byte) pairs with offsets strictly rising and no zero byte listed, so that an
offset that is not listed reads 0, as hardware reset leaves it (R90, R132). -/
abbrev ByteStore := List Host.Cell

/-! ### PIF and the ports (Chapter 2) -/

/-- The Path Interface: the RST input and the sampled page base, address bits 39..12 (R20, R32). -/
structure Pif where
  resetAsserted : Bool
  pageBase : BitVec 28
  deriving DecidableEq, Repr

/-- A read response as the requester gets it: address, tag, data after substitution, status (R17). -/
structure ReturnedRead where
  addr : Addr
  tag : Byte
  data : List Byte
  status : Status
  deriving DecidableEq, Repr

/-- MODEL: what the memory ports last carried out of the part: the last write forwarded downstream (with the status
returned for it upstream) and the last read response returned upstream (R17). -/
structure Ports where
  write : Option BusWrite
  read : Option ReturnedRead
  deriving DecidableEq, Repr

/-- The Time Base: prescaler count, the sampled prescaler P, and part time (R33). -/
structure Tb where
  count : Nat
  prescaler : Nat
  partTime : Tick
  deriving DecidableEq, Repr

/-! ### CCU (Chapter 8) -/

/-- What a record position holds (R131). `settle` is the settle timer's start time while it runs.
The rejected stamp of the SETUP and DIRECTIVE positions, which hold none, is always 0. -/
structure PositionState where
  adoptedStamp : Byte
  rejectedStamp : Byte
  pending : Bool
  settle : Option Tick
  deriving DecidableEq, Repr

/-- The reasons of a rejection note, 1 CHECK, 2 SHAPE, 3 INUSE (R131). -/
inductive RejectReason where
  | check
  | shape
  | inuse
  deriving DecidableEq, Repr

/-- The rejection note (R131). -/
structure RejectionNote where
  position : Position
  reason : RejectReason
  stamp : Byte
  deriving DecidableEq, Repr

/-- The clamp note: position, count of altered fields, number of the first altered field or 0 (R131, R140). -/
structure ClampNote where
  position : Position
  count : Nat
  first : Nat
  deriving DecidableEq, Repr

/-- The reasons of a last-directive note, 1..6 in this order (R5). -/
inductive DirectiveReason where
  | unknown
  | notReady
  | armed
  | notArmed
  | notSuspended
  | suspended
  deriving DecidableEq, Repr

/-- The last-directive note: code, entry index, reason (R5). -/
structure DirectiveNote where
  code : Byte
  entry : Nat
  reason : DirectiveReason
  deriving DecidableEq, Repr

/-- The Control Capture Unit (R131). -/
structure Ccu where
  /-- the capture shadow, by page offset 0x000..0x27F -/
  shadow : ByteStore
  posSetup : PositionState
  posLadder : PositionState
  posWindows : PositionState
  posDirective : PositionState
  adoptedSetup : Option Setup
  adoptedLadder : Option Ladder
  adoptedWindows : Option Windows
  /-- the adoption counter, 0..63 -/
  counter : Nat
  rejectionNote : Option RejectionNote
  clampNote : Option ClampNote
  directiveNote : Option DirectiveNote
  deriving DecidableEq, Repr

/-! ### SC (Chapter 1) -/

/-- The governor state, numbered 0..4 in this order (R1). -/
inductive Governor where
  | dormant
  | ready
  | warmup
  | adapting
  | suspended
  deriving DecidableEq, Repr

/-- What the remembered state holds when present (R1). -/
inductive Remembered where
  | warmup
  | adapting
  deriving DecidableEq, Repr

/-- The Session Controller (R1). -/
structure Sc where
  governor : Governor
  remembered : Option Remembered
  warmupCount : Nat
  deriving DecidableEq, Repr

/-! ### STU (Chapter 3) -/

/-- The slot states, numbered 0..5 in this order (R35, R156). -/
inductive SlotState where
  | free
  | issued
  | filling
  | advised
  | landed
  | draining
  deriving DecidableEq, Repr

/-- A slot record (R35). `longSilence` is state that R61 implies: it is set once the silence since the last counted fill
write (or since the issue) has reached 2,000 ms, from which point the measured gap is held there. -/
structure Slot where
  state : SlotState
  segment : Nat
  rung : Nat
  duration : Nat
  base : Nat
  capacity : Nat
  length : Option Nat
  expected : Nat
  issueTick : Tick
  lastFill : Option Tick
  longSilence : Bool
  fillMark : Nat
  drainMark : Nat
  activeMs : Nat
  stalled : Bool
  advisedRung : Option Nat
  overfill : Bool
  earlyUnderrun : Bool
  deriving DecidableEq, Repr

/-- The empty slot record (R35). -/
def Slot.empty : Slot :=
  { state := .free, segment := 0, rung := 0, duration := 0, base := 0, capacity := 0, length := none, expected := 0,
    issueTick := 0, lastFill := none, longSilence := false, fillMark := 0, drainMark := 0, activeMs := 0,
    stalled := false, advisedRung := none, overfill := false, earlyUnderrun := false }

/-- The Slot Table Unit: eight slot records and the playout queue of slot numbers (R35, R50). -/
structure Stu where
  slots : Vector Slot 8
  queue : List (Fin 8)
  deriving DecidableEq, Repr

/-! ### TE (Chapter 4) -/

/-- A sample entry (R59). -/
structure Sample where
  segment : Nat
  rung : Nat
  bytes : Nat
  activeMs : Nat
  rate : Nat
  landing : Tick
  deriving DecidableEq, Repr

/-- The congestion state (R59). -/
inductive Congestion where
  | clear
  | congested
  deriving DecidableEq, Repr

/-- The Throughput Estimator: sample ring newest first, E_f, E_s, congestion state, estimates-valid mark (R59). -/
structure Te where
  ring : List Sample
  fast : Nat
  slow : Nat
  congestion : Congestion
  valid : Bool
  deriving DecidableEq, Repr

/-! ### VU (Chapter 6) -/

/-- The codes of a latched verdict, 1..12 in this order; 0, NONE, is the absence of one (R89). -/
inductive VerdictCode where
  | go
  | hold
  | done
  | full
  | duplicate
  | overlap
  | badreq
  | small
  | unknown
  | notArmed
  | suspended
  | already
  deriving DecidableEq, Repr

/-- A verdict record (R89). -/
structure Verdict where
  code : VerdictCode
  echo : Byte
  rung : Nat
  slot : Nat
  holdUnits : Nat
  expected : Nat
  decisionTick : Tick
  deadlineTick : Tick
  bufferLevel : Nat
  safeRate : Nat
  deriving DecidableEq, Repr

/-- A ticket's entry stamp, latched verdict and 32-byte request shadow (R89). -/
structure Ticket where
  stamp : Byte
  verdict : Option Verdict
  shadow : ByteStore
  deriving DecidableEq, Repr

/-- The Verdict Unit: sixteen tickets, the current rung and the dwell count (R89). -/
structure Vu where
  tickets : Vector Ticket 16
  currentRung : Nat
  dwell : Nat
  deriving DecidableEq, Repr

/-! ### PM (Chapter 7) -/

/-- A running timer: its start time and its duration in ms (R114). -/
structure Timer where
  start : Tick
  duration : Nat
  deriving DecidableEq, Repr

/-- The three timers of a slot number, each absent while stopped (R114). -/
structure SlotTimers where
  stall : Option Timer
  check : Option Timer
  grace : Option Timer
  deriving DecidableEq, Repr

/-- All three timers stopped (R114). -/
def SlotTimers.stopped : SlotTimers := { stall := none, check := none, grace := none }

/-- The Progress Monitor (R114). -/
structure Pm where
  timers : Vector SlotTimers 8
  deriving DecidableEq, Repr

/-! ### ERU (Chapter 9) -/

/-- The 23 tallies: eleven event tallies and the dwell time of each rung 0..11 (R145, R150). -/
structure Tallies where
  landed : Nat
  gated : Nat
  underruns : Nat
  stalls : Nat
  advices : Nat
  unheeded : Nat
  upSwitches : Nat
  downSwitches : Nat
  holds : Nat
  rejections : Nat
  refusals : Nat
  dwellTime : Vector Nat 12
  deriving DecidableEq, Repr

/-- All 23 tallies 0 (R145, R151). -/
def Tallies.zero : Tallies :=
  { landed := 0, gated := 0, underruns := 0, stalls := 0, advices := 0, unheeded := 0, upSwitches := 0,
    downSwitches := 0, holds := 0, rejections := 0, refusals := 0, dwellTime := Vector.replicate 12 0 }

/-- The Event and Report Unit: flags and enables (bit k is flag k of R146), tallies, the sampled revision tie-off, and the
1,024 bytes of the report snapshot (R145). The EVT line is derived from flags and enables (R149). -/
structure Eru where
  flags : BitVec 9
  enables : BitVec 9
  tallies : Tallies
  revision : Byte
  snapshot : List Byte
  deriving DecidableEq, Repr

/-! ### The whole part -/

/-- The state of the part, one field a block. MODEL fields: `ports`, `freeCount` (how many free values have been used,
notes/assumptions/6.md) and `pending`, the queue of commands that wait, first in, first out. -/
structure State where
  pif : Pif
  ports : Ports
  tb : Tb
  ccu : Ccu
  sc : Sc
  stu : Stu
  te : Te
  vu : Vu
  pm : Pm
  eru : Eru
  freeCount : Nat
  pending : List Instr
  deriving DecidableEq, Repr

/-- A record position with nothing adopted, rejected or pending (R132). -/
def PositionState.reset : PositionState := { adoptedStamp := 0, rejectedStamp := 0, pending := false, settle := none }

/-- The 1,024 snapshot bytes before the first snapshot (notes/assumptions/2.md). -/
def blankSnapshot : List Byte := List.replicate 1024 0

/-- The part under hardware reset: RST is asserted and every block holds its hardware reset values (R32; R2, R33, R36, R60,
R90, R114, R132, R145). RST_RELEASE completes the reset: it samples the tie-offs and takes the snapshot.
DESIGN CHOICE (notes/assumptions/2.md): page base, prescaler, revision and snapshot before their first sampling are 0. -/
def State.reset : State :=
  { pif := { resetAsserted := true, pageBase := 0 }
    ports := { write := none, read := none }
    tb := { count := 0, prescaler := 0, partTime := 0 }
    ccu :=
      { shadow := []
        posSetup := PositionState.reset
        posLadder := PositionState.reset
        posWindows := PositionState.reset
        posDirective := PositionState.reset
        adoptedSetup := none
        adoptedLadder := none
        adoptedWindows := none
        counter := 0
        rejectionNote := none
        clampNote := none
        directiveNote := none }
    sc := { governor := .dormant, remembered := none, warmupCount := 0 }
    stu := { slots := Vector.replicate 8 Slot.empty, queue := [] }
    te := { ring := [], fast := 0, slow := 0, congestion := .clear, valid := false }
    vu := { tickets := Vector.replicate 16 { stamp := 0, verdict := none, shadow := [] }, currentRung := 0, dwell := 0 }
    pm := { timers := Vector.replicate 8 SlotTimers.stopped }
    eru :=
      { flags := 0x100, enables := 0, tallies := Tallies.zero, revision := 0, snapshot := blankSnapshot }
    freeCount := 0
    pending := [] }

/-- Why a step could stop with a fault: no rule of the manual stops the part, so there is no constructor. -/
inductive Fault where
  deriving DecidableEq, Repr

/-- Why a command could be refused. -/
inductive Refusal where
  /-- Raised by an arm of `exec` whose command has no meaning yet (none is left): safe, since nothing is then claimed. -/
  | notModelled (mnemonic : String)
  deriving DecidableEq, Repr

end Sys2Proof.Machine
end

