-- ==== Sys2Proof/Machine/Ops.lean ====
section
/-! DEFINITION. The operations every block shares: byte buffers, intervals of part time and timers, the accessors of
slots, timers, tickets and record positions, the settings in force, and freeing a slot. -/

namespace Sys2Proof.Machine

/-! ### Byte buffers -/

/-- The byte a buffer holds at an offset: 0 where none is listed. -/
def readByte : ByteStore → Nat → Byte
  | [], _ => 0
  | (k, b) :: rest, a => if k = a then b else readByte rest a

/-- A buffer with one byte written, in the canonical form: rising offsets, no zero byte listed. -/
def writeByte : ByteStore → Nat → Byte → ByteStore
  | [], a, v => if v = 0 then [] else [(a, v)]
  | (k, b) :: rest, a, v =>
    if a < k then (if v = 0 then (k, b) :: rest else (a, v) :: (k, b) :: rest)
    else if a = k then (if v = 0 then rest else (a, v) :: rest)
    else (k, b) :: writeByte rest a v

/-- A buffer with the listed bytes written, in order. -/
def writeBytes (m : ByteStore) (bytes : List (Nat × Byte)) : ByteStore :=
  bytes.foldl (fun acc ab => writeByte acc ab.1 ab.2) m

/-- Every offset of the buffer is above `low`, they rise strictly, and no listed byte is 0. -/
def risingAbove (low : Nat) : ByteStore → Bool
  | [] => true
  | (k, b) :: rest => decide (low ≤ k) && decide (b ≠ 0) && risingAbove (k + 1) rest

/-- The canonical form of a byte buffer. -/
def ByteStore.wf (m : ByteStore) : Bool := risingAbove 0 m

/-- Every listed offset of the buffer lies below `size`. -/
def ByteStore.within (m : ByteStore) (size : Nat) : Bool := m.all (fun c => decide (c.1 < size))

/-- An unsigned little-endian field of `width` bytes at `offset` (R155). -/
def readField (m : ByteStore) (offset : Nat) : Nat → Nat
  | 0 => 0
  | width + 1 => (readByte m offset).toNat + 256 * readField m (offset + 1) width

/-! ### Part time and timers (R34) -/

/-- The interval from the earlier part time to the later, modulo 2^32 (R34). -/
def interval (earlier later : Tick) : Nat := (later - earlier).toNat

/-- A timer started at a part time (R114). -/
def startTimer (now : Tick) (duration : Nat) : Option Timer := some { start := now, duration := duration }

/-- A running timer has reached its expiring tick: the interval from its start has reached its duration (R34). -/
def timerDue (now : Tick) : Option Timer → Bool
  | none => false
  | some t => decide (t.duration ≤ interval t.start now)

/-- A settle timer has reached its expiring tick; its duration is fixed (R136). -/
def settleTimerDue (now : Tick) : Option Tick → Bool
  | none => false
  | some start => decide (Config.settleTime ≤ interval start now)

/-- Part time as it stands (R33). -/
def State.now (s : State) : Tick := s.tb.partTime

/-! ### Slots, timers, tickets, record positions -/

/-- The slot numbers in ascending order (R35). -/
def allSlots : List (Fin 8) := [0, 1, 2, 3, 4, 5, 6, 7]

/-- The record positions in ascending page offset (R131). -/
def allPositions : List Position := [.setup, .ladder, .windows, .directive]

/-- Slot record `n`. -/
def State.slot (s : State) (n : Fin 8) : Slot := s.stu.slots[n]

/-- The state with slot record `n` replaced. -/
def State.setSlot (s : State) (n : Fin 8) (x : Slot) : State :=
  { s with stu := { s.stu with slots := s.stu.slots.set n x } }

/-- The state with the playout queue replaced. -/
def State.setQueue (s : State) (q : List (Fin 8)) : State := { s with stu := { s.stu with queue := q } }

/-- The timers of slot number `n`. -/
def State.timers (s : State) (n : Fin 8) : SlotTimers := s.pm.timers[n]

/-- The state with the timers of slot number `n` replaced. -/
def State.setTimers (s : State) (n : Fin 8) (x : SlotTimers) : State :=
  { s with pm := { timers := s.pm.timers.set n x } }

/-- Ticket `t`. -/
def State.ticket (s : State) (t : Fin 16) : Ticket := s.vu.tickets[t]

/-- The state with ticket `t` replaced. -/
def State.setTicket (s : State) (t : Fin 16) (x : Ticket) : State :=
  { s with vu := { s.vu with tickets := s.vu.tickets.set t x } }

/-- What a record position holds. -/
def State.position (s : State) : Position → PositionState
  | .setup => s.ccu.posSetup
  | .ladder => s.ccu.posLadder
  | .windows => s.ccu.posWindows
  | .directive => s.ccu.posDirective

/-- The state with what a record position holds replaced. -/
def State.setPosition (s : State) (p : Position) (x : PositionState) : State :=
  match p with
  | .setup => { s with ccu := { s.ccu with posSetup := x } }
  | .ladder => { s with ccu := { s.ccu with posLadder := x } }
  | .windows => { s with ccu := { s.ccu with posWindows := x } }
  | .directive => { s with ccu := { s.ccu with posDirective := x } }

/-- Slots in ISSUED, FILLING and ADVISED are unlanded (section 3.1). -/
def SlotState.unlanded : SlotState → Bool
  | .issued | .filling | .advised => true
  | .free | .landed | .draining => false

/-- Slots in LANDED and DRAINING are landed (section 3.1). -/
def SlotState.hasLanded : SlotState → Bool
  | .landed | .draining => true
  | .free | .issued | .filling | .advised => false

/-- A slot in any state but FREE is live (section 3.1). -/
def SlotState.live : SlotState → Bool
  | .free => false
  | .issued | .filling | .advised | .landed | .draining => true

/-- Some slot is non-FREE (R82, R141). -/
def State.anyLive (s : State) : Bool := allSlots.any (fun n => (s.slot n).state.live)

/-- The lowest-numbered FREE slot (R37). -/
def State.lowestFree (s : State) : Option (Fin 8) := allSlots.find? (fun n => !(s.slot n).state.live)

/-- The live slot holding a segment (R100, R108, R109). -/
def State.liveHolding (s : State) (segment : Nat) : Option (Fin 8) :=
  allSlots.find? (fun n => (s.slot n).state.live && decide ((s.slot n).segment = segment))

/-- The unlanded slot holding a segment (R48, R110). -/
def State.unlandedHolding (s : State) (segment : Nat) : Option (Fin 8) :=
  allSlots.find? (fun n => (s.slot n).state.unlanded && decide ((s.slot n).segment = segment))

/-! ### The settings in force -/

/-- The adopted SETUP, as every use reads it (R96, R138). -/
def State.setup (s : State) : Setup := s.ccu.adoptedSetup.getD Config.unadoptedSetup

/-- The adopted ladder, as every use reads it (R79). -/
def State.ladder (s : State) : Ladder := s.ccu.adoptedLadder.getD Config.unadoptedLadder

/-- The adopted WINDOWS, as the validity step reads them (R99). -/
def State.windows (s : State) : Windows := s.ccu.adoptedWindows.getD Config.unadoptedWindows

/-- Growth of a count that saturates at `top`. -/
def saturatingAdd (top x k : Nat) : Nat := min (x + k) top

/-! ### The playout queue and freeing (R50, R51, R54) -/

/-- The queue with slot `n`, holding `segment`, inserted before the first entry whose slot holds a higher segment (R50). -/
def insertBySegment (segmentOf : Fin 8 → Nat) (segment : Nat) (n : Fin 8) : List (Fin 8) → List (Fin 8)
  | [] => [n]
  | q :: rest =>
    if segment < segmentOf q then n :: q :: rest else q :: insertBySegment segmentOf segment n rest

/-- A slot freed by any cause: an empty record, out of the queue, its timers stopped (R54). -/
def freeSlot (s : State) (n : Fin 8) : State :=
  ((s.setSlot n Slot.empty).setQueue (s.stu.queue.filter (fun q => decide (q ≠ n)))).setTimers n SlotTimers.stopped

/-- Every slot freed (R36, R56). -/
def freeAllSlots (s : State) : State :=
  { s with stu := State.reset.stu, pm := State.reset.pm }

end Sys2Proof.Machine
end

