-- ==== Sys2Proof/Machine/Operands.lean ====
section
/-! DEFINITION. How the part reads what software writes: where a byte address falls (R20, R24), the record positions, the
check code (R134), and the fields of the four control records and of a request half (R155, section 10.1). -/

namespace Sys2Proof.Machine

/-! ### Where a byte falls (section 2.2) -/

/-- Where a byte address falls: the units of R19, and the memory that is in none of them. -/
inductive Area where
  | control (p : Position)
  | request (t : Fin 16)
  | verdict (t : Fin 16)
  | report
  | plain
  | window (n : Fin 8)
  | outside
  deriving DecidableEq, Repr

/-- The classification of a page offset 0x000..0xFFF (R20). -/
def pageArea (offset : Nat) : Area :=
  if offset < 0x100 then .control .setup
  else if offset < 0x200 then .control .ladder
  else if offset < 0x240 then .control .windows
  else if offset < 0x280 then .control .directive
  else if offset < 0x400 then .plain
  else if offset < 0x800 then .report
  else if offset < 0xC00 then .plain
  else
    let t := Fin.ofNat 16 ((offset - 0xC00) / 64)
    if offset % 64 < 32 then .request t else .verdict t

/-- The byte address of the governor page's first byte (R20). -/
def State.pageStart (s : State) : Nat := s.pif.pageBase.toNat * 4096

/-- A byte address lies in the governor page: its bits 39..12 equal the sampled base (R20). -/
def State.inPage (s : State) (a : Nat) : Bool := decide (a / 4096 = s.pif.pageBase.toNat)

/-- A byte address lies in a slot's window [base, base + capacity) (R24). -/
def Slot.covers (x : Slot) (a : Nat) : Bool := decide (x.base ≤ a) && decide (a < x.base + x.capacity)

/-- The non-FREE slot whose window holds a byte address, as the slots stand (R19, R24). -/
def State.windowAt (s : State) (a : Nat) : Option (Fin 8) :=
  allSlots.find? (fun n => (s.slot n).state.live && (s.slot n).covers a)

/-- Where a byte address falls, as the state stands (R19, R20). -/
def State.areaAt (s : State) (a : Nat) : Area :=
  if s.inPage a then pageArea (a % 4096)
  else
    match s.windowAt a with
    | some n => .window n
    | none => .outside

/-- A tag matches a (value, mask) pair when the tag AND mask equals the value AND mask (section 0.6). -/
def tagMatches (tag value mask : Byte) : Bool := decide (tag &&& mask = value &&& mask)

/-- A write's tag matches the fill match in force (R23). -/
def State.fillMatches (s : State) (tag : Byte) : Bool :=
  match s.ccu.adoptedWindows with
  | some w => tagMatches tag w.fillValue w.fillMask
  | none => false

/-- A read's tag matches the drain match in force (R23). -/
def State.drainMatches (s : State) (tag : Byte) : Bool :=
  match s.ccu.adoptedWindows with
  | some w => tagMatches tag w.drainValue w.drainMask
  | none => false

/-- The (address, byte) pairs of consecutive positions from `a` on. -/
def addressed (a : Nat) : List Byte → List (Nat × Byte)
  | [] => []
  | b :: rest => (a, b) :: addressed (a + 1) rest

/-- The (address, byte) pairs of the strobed positions from `a` on; unstrobed positions carry nothing (R21). -/
def strobedFrom (a : Nat) : List Lane → List (Nat × Byte)
  | [] => []
  | l :: rest => if l.strobe then (a, l.data) :: strobedFrom (a + 1) rest else strobedFrom (a + 1) rest

/-- The strobed bytes of a write, in ascending address (R21). -/
def strobedBytes (w : BusWrite) : List (Nat × Byte) := strobedFrom w.addr.toNat w.lanes

/-! ### The record positions and the check code -/

/-- Page offset of a record position's first byte (R131). -/
def positionOffset : Position → Nat
  | .setup => 0x000
  | .ladder => 0x100
  | .windows => 0x200
  | .directive => 0x240

/-- Size of a record position in bytes (R131). -/
def positionSize : Position → Nat
  | .setup | .ladder => 256
  | .windows | .directive => 64

/-- One bit fed to the check code's register (R134, step 3). -/
def feedBit (reg : BitVec 16) (bit : Bool) : BitVec 16 :=
  if xor bit reg.msb then (reg <<< 1) ^^^ 0x38A5 else reg <<< 1

/-- One byte fed, most significant bit first (R134, step 2). -/
def feedByte (reg : BitVec 16) (b : Byte) : BitVec 16 :=
  [7, 6, 5, 4, 3, 2, 1, 0].foldl (fun r i => feedBit r (b.getLsbD i)) reg

/-- `count` bytes of the shadow fed in ascending page offset from `offset` on (R134, step 2). -/
def feedFrom (m : ByteStore) (reg : BitVec 16) (offset : Nat) : Nat → BitVec 16
  | 0 => reg
  | count + 1 => feedFrom m (feedByte reg (readByte m offset)) (offset + 1) count

/-- The check code of a record position, computed from the shadow (R134). -/
def checkCode (m : ByteStore) (p : Position) : BitVec 16 :=
  feedFrom m 0x0001 (positionOffset p) (positionSize p - 2)

/-- The computed check code equals the check field in the position's last two bytes (R134, step 4). -/
def checkMatches (m : ByteStore) (p : Position) : Bool :=
  decide ((checkCode m p).toNat = readField m (positionOffset p + positionSize p - 2) 2)

/-! ### SETUP (sections 8.6 and 10.1.1) -/

/-- A field as adoption takes it: its value, and whether it was clamped or raised (R140). -/
structure Taken where
  value : Nat
  altered : Bool
  deriving DecidableEq, Repr

/-- A stored value taken at the nearest end of its range (R140). -/
def clampTo (low high stored : Nat) : Taken :=
  { value := max low (min stored high), altered := decide (stored < low) || decide (high < stored) }

/-- A taken field raised to `least` if it is below, for consistency with another field (R140). -/
def Taken.raisedTo (x : Taken) (least : Nat) : Taken :=
  { value := max x.value least, altered := x.altered || decide (x.value < least) }

/-- The SETUP record's 24 fields as adoption takes them from the shadow: clamps and raises of R1, R61, R64, R68, R69, R73,
R76, R96 and R114, at the offsets of section 10.1.1. -/
def readSetup (m : ByteStore) : SettingsOf Taken :=
  let shiftFast := clampTo 1 4 (readField m 0x05 1)
  let sigma := clampTo 64 256 (readField m 0x0A 2)
  let rhoIn := clampTo 64 250 (readField m 0x0E 2)
  let bPanic := clampTo 0 120000 (readField m 0x24 4)
  let bTarget := clampTo 0 120000 (readField m 0x2C 4)
  { mode := clampTo 0 1 (readField m 0x01 1)
    pinnedRung := clampTo 0 11 (readField m 0x02 1)
    startRung := clampTo 0 11 (readField m 0x03 1)
    capRung := clampTo 0 11 (readField m 0x04 1)
    shiftFast := shiftFast
    shiftSlow := (clampTo 2 7 (readField m 0x06 1)).raisedTo (shiftFast.value + 1)
    dwellMin := clampTo 0 15 (readField m 0x07 1)
    warmupLength := clampTo 0 8 (readField m 0x08 1)
    abandonEnable := clampTo 0 1 (readField m 0x09 1)
    sigma := sigma
    sigmaCongested := clampTo 64 sigma.value (readField m 0x0C 2)
    rhoIn := rhoIn
    rhoOut := clampTo (rhoIn.value + 6) 256 (readField m 0x10 2)
    gapLimit := clampTo 1 2000 (readField m 0x12 2)
    stallTime := clampTo 50 10000 (readField m 0x14 2)
    checkTime := clampTo 50 5000 (readField m 0x16 2)
    guard := clampTo 0 30000 (readField m 0x18 2)
    graceTime := (clampTo 50 10000 (readField m 0x1A 2)).raisedTo 100
    seed := clampTo 0 1048575 (readField m 0x1C 4)
    minSample := clampTo 0 16777216 (readField m 0x20 4)
    bPanic := bPanic
    bUp := (clampTo 0 120000 (readField m 0x28 4)).raisedTo bPanic.value
    bTarget := bTarget
    bFull := (clampTo 0 120000 (readField m 0x30 4)).raisedTo (bTarget.value + 10) }

/-- The adopted values of a SETUP reading (R140). -/
def settingsValues (u : SettingsOf Taken) : Setup :=
  { mode := u.mode.value, pinnedRung := u.pinnedRung.value, startRung := u.startRung.value, capRung := u.capRung.value,
    shiftFast := u.shiftFast.value, shiftSlow := u.shiftSlow.value, dwellMin := u.dwellMin.value,
    warmupLength := u.warmupLength.value, abandonEnable := u.abandonEnable.value, sigma := u.sigma.value,
    sigmaCongested := u.sigmaCongested.value, rhoIn := u.rhoIn.value, rhoOut := u.rhoOut.value,
    gapLimit := u.gapLimit.value, stallTime := u.stallTime.value, checkTime := u.checkTime.value, guard := u.guard.value,
    graceTime := u.graceTime.value, seed := u.seed.value, minSample := u.minSample.value, bPanic := u.bPanic.value,
    bUp := u.bUp.value, bTarget := u.bTarget.value, bFull := u.bFull.value }

/-- The fields of a SETUP reading in field-number order, 1..24 (section 10.1.1). -/
def settingsList (u : SettingsOf Taken) : List Taken :=
  [u.mode, u.pinnedRung, u.startRung, u.capRung, u.shiftFast, u.shiftSlow, u.dwellMin, u.warmupLength, u.abandonEnable,
    u.sigma, u.sigmaCongested, u.rhoIn, u.rhoOut, u.gapLimit, u.stallTime, u.checkTime, u.guard, u.graceTime, u.seed,
    u.minSample, u.bPanic, u.bUp, u.bTarget, u.bFull]

/-- The numbers, from `number` on, of the fields that adoption altered. -/
def alteredFrom (number : Nat) : List Taken → List Nat
  | [] => []
  | x :: rest => if x.altered then number :: alteredFrom (number + 1) rest else alteredFrom (number + 1) rest

/-- The clamp note of an adoption whose altered fields are these (R140). -/
def clampNoteOf (p : Position) (altered : List Nat) : ClampNote :=
  { position := p, count := altered.length, first := altered.headD 0 }

/-! ### LADDER (section 10.1.2) -/

/-- A trim byte in two's complement (R155). -/
def signedByte (v : Nat) : Int := if v < 128 then (v : Int) else (v : Int) - 256

/-- The rung count N of the LADDER record in the shadow. -/
def readRungCount (m : ByteStore) : Nat := readField m 0x101 1

/-- Rung entry `k` of the LADDER record in the shadow. -/
def readRung (m : ByteStore) (k : Nat) : Rung :=
  { nominal := readField m (0x104 + 4 * k) 2, trim := signedByte (readField m (0x106 + 4 * k) 1) }

/-- The ladder of the LADDER record in the shadow: its entries 0..N − 1 alone (R79). -/
def readLadder (m : ByteStore) : Ladder := { rungs := (List.range (readRungCount m)).map (readRung m) }

/-- Every nominal rate is at least 64 and above the one before it (R81). -/
def ratesRise : Nat → List Rung → Bool
  | _, [] => true
  | low, r :: rest => decide (low ≤ r.nominal) && ratesRise (max 64 (r.nominal + 1)) rest

/-- The LADDER record in the shadow passes its shape test (R81). -/
def ladderShape (m : ByteStore) : Bool :=
  decide (1 ≤ readRungCount m) && decide (readRungCount m ≤ 12) && ratesRise 64 (readLadder m).rungs

/-! ### WINDOWS (sections 8.7 and 10.1.3) -/

/-- The maximum capacity of the WINDOWS record in the shadow, as adoption takes it (R141). -/
def readMaxCapacity (m : ByteStore) : Taken := clampTo 4096 67108864 (readField m 0x218 4)

/-- The WINDOWS record in the shadow, as adoption takes it (R141). -/
def readWindows (m : ByteStore) : Windows :=
  { fillValue := readByte m 0x201
    fillMask := readByte m 0x202
    drainValue := readByte m 0x203
    drainMask := readByte m 0x204
    low := readField m 0x208 5
    high := readField m 0x210 5
    maxCapacity := (readMaxCapacity m).value }

/-- The field numbers a WINDOWS adoption altered: 5 or none (section 10.1.3). -/
def windowsAltered (m : ByteStore) : List Nat := if (readMaxCapacity m).altered then [5] else []

/-- Bounds pass the shape test of WINDOWS: low below high, and no byte shared with the governor page (R141). -/
def boundsShape (pageStart low high : Nat) : Bool :=
  decide (low < high) && !(decide (low < pageStart + 4096) && decide (pageStart < high))

/-- The WINDOWS record in the shadow passes its shape test (R141). -/
def windowsShape (s : State) : Bool :=
  boundsShape s.pageStart (readWindows s.ccu.shadow).low (readWindows s.ccu.shadow).high

/-! ### DIRECTIVE (section 10.1.4) -/

/-- Entry `i` of the DIRECTIVE record in the shadow: code and argument. -/
def readEntry (m : ByteStore) (i : Nat) : Byte × BitVec 32 :=
  (readByte m (0x248 + 8 * i), BitVec.ofNat 32 (readField m (0x24C + 8 * i) 4))

/-- The six entries of the DIRECTIVE record in the shadow. -/
def readEntries (m : ByteStore) : List (Byte × BitVec 32) := [0, 1, 2, 3, 4, 5].map (readEntry m)

/-! ### Request half (section 10.1.5) -/

/-- A request as VU reads it from a ticket's request shadow (R89). -/
structure Request where
  stamp : Byte
  kind : Nat
  duration : Nat
  segment : Nat
  capacity : Nat
  length : Nat
  base : Nat
  deriving DecidableEq, Repr

/-- The request in a request shadow, at the offsets of section 10.1.5. -/
def readRequest (m : ByteStore) : Request :=
  { stamp := readByte m 0
    kind := readField m 1 1
    duration := readField m 2 2
    segment := readField m 4 4
    capacity := readField m 8 4
    length := readField m 12 4
    base := readField m 16 8 }

end Sys2Proof.Machine
end

