-- ==== Sys2Proof/Machine/Flags.lean ====
section
/-! DEFINITION. Event flags, the EVT line and the tallies of ERU (R146 to R151). -/

namespace Sys2Proof.Machine

/-- The nine kinds of event, numbered 0..8 in this order (R146). -/
inductive Event where
  | advise
  | unheeded
  | underrun
  | stall
  | congest
  | switch
  | reject
  | overfill
  | restarted
  deriving DecidableEq, Repr

/-- The flag of an event, in its bit (R146, R156). -/
def flagBit : Event → BitVec 9
  | .advise => 0x001
  | .unheeded => 0x002
  | .underrun => 0x004
  | .stall => 0x008
  | .congest => 0x010
  | .switch => 0x020
  | .reject => 0x040
  | .overfill => 0x080
  | .restarted => 0x100

/-- An event reported to ERU sets its flag, whatever the enable mask and the governor state (R146). -/
def raiseFlag (s : State) (e : Event) : State :=
  { s with eru := { s.eru with flags := s.eru.flags ||| flagBit e } }

/-- The EVT line: high exactly when some set flag is enabled (R149). -/
def State.evt (s : State) : Bool := decide (s.eru.flags &&& s.eru.enables ≠ 0)

/-- The tallies (R150). -/
inductive TallyKind where
  | landed
  | gated
  | underruns
  | stalls
  | advices
  | unheeded
  | upSwitches
  | downSwitches
  | holds
  | rejections
  | refusals
  | dwellTime (rung : Nat)
  deriving DecidableEq, Repr

/-- The value at which a tally saturates (R150). -/
def tallyTop : Nat := 2 ^ 32 - 1

/-- A tally grown by `k`, saturating (R150). A rung is 0..11, so its dwell-time tally exists. -/
def growTallies (t : Tallies) (kind : TallyKind) (k : Nat) : Tallies :=
  match kind with
  | .landed => { t with landed := saturatingAdd tallyTop t.landed k }
  | .gated => { t with gated := saturatingAdd tallyTop t.gated k }
  | .underruns => { t with underruns := saturatingAdd tallyTop t.underruns k }
  | .stalls => { t with stalls := saturatingAdd tallyTop t.stalls k }
  | .advices => { t with advices := saturatingAdd tallyTop t.advices k }
  | .unheeded => { t with unheeded := saturatingAdd tallyTop t.unheeded k }
  | .upSwitches => { t with upSwitches := saturatingAdd tallyTop t.upSwitches k }
  | .downSwitches => { t with downSwitches := saturatingAdd tallyTop t.downSwitches k }
  | .holds => { t with holds := saturatingAdd tallyTop t.holds k }
  | .rejections => { t with rejections := saturatingAdd tallyTop t.rejections k }
  | .refusals => { t with refusals := saturatingAdd tallyTop t.refusals k }
  | .dwellTime rung =>
    if h : rung < 12 then
      { t with dwellTime := t.dwellTime.set rung (saturatingAdd tallyTop t.dwellTime[rung] k) }
    else t

/-- The state with a tally grown (R150). -/
def growTally (s : State) (kind : TallyKind) (k : Nat) : State :=
  { s with eru := { s.eru with tallies := growTallies s.eru.tallies kind k } }

/-- An event that also grows its tally by 1 (R146). -/
def reportEvent (s : State) (e : Event) (kind : TallyKind) : State := growTally (raiseFlag s e) kind 1

/-- ACK: clears the flags named in bits 0..8 of its argument (R147). -/
def ackFlags (s : State) (mask : BitVec 32) : State :=
  { s with eru := { s.eru with flags := s.eru.flags &&& ~~~(mask.setWidth 9) } }

/-- ENABLE: bits 0..8 of its argument become the enable mask (R148). -/
def setEnables (s : State) (mask : BitVec 32) : State :=
  { s with eru := { s.eru with enables := mask.setWidth 9 } }

/-- CLEAR_TALLIES: all 23 tallies become 0 (R151). -/
def clearAllTallies (s : State) : State :=
  { s with eru := { s.eru with tallies := Tallies.zero } }

end Sys2Proof.Machine
end

