-- ==== Sys2Proof/Machine/Estimator.lean ====
section
/-! DEFINITION. The Throughput Estimator: active time, samples, the two estimates, congestion and the safe rate
(Chapter 4), and the warmup count that a passed sample hands to SC (R13). -/

namespace Sys2Proof.Machine

/-- The largest rate TE holds, in kbit/s (R59). -/
def rateTop : Nat := 1048575

/-! ### Active time (R61, R62) -/

/-- The gap g that a counted fill write closes: the interval from the last fill tick, or from the issue tick before the
first, held at 2,000 ms once the silence has reached that (R61). -/
def Slot.gap (x : Slot) (now : Tick) : Nat :=
  if x.longSilence then Config.longestGap else min (interval (x.lastFill.getD x.issueTick) now) Config.longestGap

/-- The active ms after a counted fill write: grown by min(g, G), saturating (R61). -/
def Slot.grownActive (x : Slot) (now : Tick) (gapLimit : Nat) : Nat :=
  saturatingAdd (2 ^ 32 - 1) x.activeMs (min (x.gap now) gapLimit)

/-- A slot after a tick to part time `now`: an unlanded slot whose silence has reached 2,000 ms is marked so (R61). -/
def Slot.afterTick (x : Slot) (now : Tick) : Slot :=
  if x.state.unlanded && decide (Config.longestGap ≤ interval (x.lastFill.getD x.issueTick) now) then
    { x with longSilence := true }
  else x

/-! ### Estimates (R67) -/

/-- One update of an estimate with shift `a` and sample `x` (R67). `Int` division by a positive number floors. -/
def updatedEstimate (estimate a x : Nat) : Nat :=
  let d : Int := (x : Int) - (estimate : Int)
  let step : Int := (d + 2 ^ (a - 1)) / 2 ^ a
  ((estimate : Int) + step).toNat

/-! ### Congestion (R74) -/

/-- The congestion state after a test of the estimates against the ratios (R74). -/
def congestionAfter (before : Congestion) (fast slow rhoIn rhoOut : Nat) : Congestion :=
  match before with
  | .clear => if fast * 256 < slow * rhoIn then .congested else .clear
  | .congested => if slow * rhoOut ≤ fast * 256 then .clear else .congested

/-- The congestion state re-evaluated; a change, either way, reports CONGEST (R74). -/
def reevaluateCongestion (s : State) : State :=
  let after := congestionAfter s.te.congestion s.te.fast s.te.slow s.setup.rhoIn s.setup.rhoOut
  if after = s.te.congestion then s
  else raiseFlag { s with te := { s.te with congestion := after } } .congest

/-! ### Samples (R63 to R66) -/

/-- The sample a landing slot forms (R63, R65). -/
def sampleOf (x : Slot) (now : Tick) : Sample :=
  let bytes := x.length.getD 0
  let active := max 1 x.activeMs
  { segment := x.segment, rung := x.rung, bytes := bytes, activeMs := active,
    rate := min (bytes * 8 / active) rateTop, landing := now }

/-- One count handed to SC by a passed sample (R13). -/
def countWarmup (s : State) : State :=
  let count := saturatingAdd 255 s.sc.warmupCount 1
  { s with sc :=
      { s.sc with
        warmupCount := count
        governor :=
          if s.sc.governor = .warmup ∧ s.setup.warmupLength ≤ count then .adapting else s.sc.governor } }

/-- The sample ring with a new entry at its head, holding at most 8 (R65). -/
def pushSample (ring : List Sample) (x : Sample) : List Sample := (x :: ring).take 8

/-- A passed sample: into the ring, then both estimates, congestion, the estimates-valid mark, SC's count (R65, R66). -/
def takePassedSample (s : State) (x : Sample) : State :=
  let entered := { s with te := { s.te with ring := pushSample s.te.ring x } }
  let estimated :=
    { entered with te :=
        { entered.te with
          fast := updatedEstimate s.te.fast s.setup.shiftFast x.rate
          slow := updatedEstimate s.te.slow s.setup.shiftSlow x.rate } }
  let judged := reevaluateCongestion estimated
  countWarmup { judged with te := { judged.te with valid := true } }

/-- A sample against the minimum-sample gate: discarded with a gated count, or passed (R64). -/
def takeSample (s : State) (x : Sample) : State :=
  if x.bytes < s.setup.minSample then growTally s .gated 1 else takePassedSample s x

/-! ### The safe rate (R76) -/

/-- The lower of the two estimates. -/
def lowerEstimate (s : State) : Nat := min s.te.fast s.te.slow

/-- The safety factor of a SETUP for a congestion state (R76). -/
def safetyFactor (u : Setup) : Congestion → Nat
  | .clear => u.sigma
  | .congested => u.sigmaCongested

/-- The safety factor in force (R76). -/
def sigmaInForce (s : State) : Nat := safetyFactor s.setup s.te.congestion

/-- The safe rate S = floor(min(E_f, E_s) × σ_cur ÷ 256) (R76). While no SETUP is adopted S is 0 with estimates of 0
(R77); a SEED may have raised them, and σ is then a free value of at most 256 (notes/assumptions/7.md). -/
def safeRate (s : State) : Nat :=
  match s.ccu.adoptedSetup with
  | some u => lowerEstimate s * safetyFactor u s.te.congestion / 256
  | none => if lowerEstimate s = 0 then 0 else lowerEstimate s * (Config.freeSigma s.freeCount % 257) / 256

/-! ### SEED (R70) -/

/-- The congestion state made CLEAR, as an evaluation of two equal estimates makes it: a change reports CONGEST (R70, R74). -/
def clearCongestion (s : State) : State :=
  if s.te.congestion = .clear then s else raiseFlag { s with te := { s.te with congestion := .clear } } .congest

/-- SEED: both estimates set to the clamped argument, congestion re-evaluated (R70). With the two equal the test always yields
CLEAR; while no SETUP is adopted there are no ratios to test against, and CLEAR is what it yields (notes/assumptions/9.md). -/
def seedEstimates (s : State) (rate : BitVec 32) : State :=
  let e := min rate.toNat rateTop
  let seeded := { s with te := { s.te with fast := e, slow := e } }
  match s.ccu.adoptedSetup with
  | some _ => reevaluateCongestion seeded
  | none => clearCongestion seeded

end Sys2Proof.Machine
end

