-- ==== Sys2Proof/Machine/Slots.lean ====
section
/-! DEFINITION. The Slot Table Unit: the buffer level, landing and consumption, fill and drain observations, and the
declared length (Chapter 3). PM's timer starts and stops that belong to these events are R115 and R116. -/

namespace Sys2Proof.Machine

/-! ### Dwell time and the buffer level (R49, R52) -/

/-- The media ms of a slot's segment up to byte `m`: floor(d × m ÷ L) (R49). -/
def Slot.played (x : Slot) (m : Nat) : Nat := x.duration * m / x.length.getD 0

/-- What a queued slot contributes to B: d − floor(d × m ÷ L) (R52). -/
def Slot.buffered (x : Slot) : Nat := x.duration - x.played x.drainMark

/-- The buffer level B, derived from the playout queue (R52). -/
def State.bufferLevel (s : State) : Nat := (s.stu.queue.map (fun n => (s.slot n).buffered)).sum

/-! ### Consumption (R48) -/

/-- The consumption underrun test on a freed slot's segment number (R48). -/
def consumptionTest (s : State) (segment : Nat) : State :=
  if segment < 2 ^ 32 - 1 ∧ (s.unlandedHolding (segment + 1)).isSome then reportEvent s .underrun .underruns else s

/-- A slot consumed: freed, then the consumption underrun test (R48, R54). -/
def consume (s : State) (n : Fin 8) : State := consumptionTest (freeSlot s n) (s.slot n).segment

/-! ### Landing (R44, R45) -/

/-- A slot as landing leaves its record: LANDED, advice withdrawn, stalled mark clear (R44, steps 1 and 2). -/
def Slot.landedRecord (x : Slot) : Slot := { x with state := .landed, advisedRung := none, stalled := false }

/-- The playout queue with slot `n` at its place by segment number (R44, R51). -/
def queueWith (s : State) (n : Fin 8) : List (Fin 8) :=
  insertBySegment (fun q => (s.slot q).segment) (s.slot n).segment n s.stu.queue

/-- Step 6 of a landing: the deferred dwell credit of a slot already read, which is then DRAINING, or consumed if it was read
up to its length (R44, R45, R49). -/
def landRead (s : State) (n : Fin 8) : State :=
  let x := s.slot n
  if x.drainMark = 0 then s
  else
    let credited := growTally s (.dwellTime x.rung) (x.played x.drainMark)
    let draining := credited.setSlot n { x with state := .draining }
    if some x.drainMark = x.length then consume draining n else draining

/-- A landing, in the six steps of R44. -/
def land (s : State) (n : Fin 8) : State :=
  let x := s.slot n
  let queued := (s.setSlot n x.landedRecord).setQueue (queueWith s n)
  let stopped := queued.setTimers n SlotTimers.stopped
  let sampled := takeSample stopped (sampleOf x s.now)
  landRead (growTally sampled .landed 1) n

/-- A slot lands when its fill mark equals its present length (R40). -/
def landIfFull (s : State) (n : Fin 8) : State :=
  if (s.slot n).length = some (s.slot n).fillMark then land s n else s

/-! ### Fill (R38, R39) -/

/-- A fill observation on an unlanded slot is counted: the length is absent, or the low offset is below it (R38). -/
def Slot.counts (x : Slot) (low : Nat) : Bool :=
  match x.length with
  | none => true
  | some len => decide (low < len)

/-- A fill observation's end, limited to a present length (R38, step 1). -/
def Slot.limitedEnd (x : Slot) (fillEnd : Nat) : Nat :=
  match x.length with
  | none => fillEnd
  | some len => min fillEnd len

/-- A slot record after a counted fill write, before any landing (R38, steps 1 to 5). -/
def Slot.filled (x : Slot) (fillEnd : Nat) (now : Tick) (gapLimit : Nat) : Slot :=
  let e := x.limitedEnd fillEnd
  { x with
    fillMark := max x.fillMark e
    earlyUnderrun := if x.fillMark < e then false else x.earlyUnderrun
    state := if x.state = .issued then .filling else x.state
    stalled := false
    activeMs := x.grownActive now gapLimit
    lastFill := some now
    longSilence := false }

/-- PM's timers after a counted fill write: stall restarted, check started by the write that leaves ISSUED (R115, R116). -/
def timersAfterFill (t : SlotTimers) (wasIssued : Bool) (now : Tick) (u : Setup) : SlotTimers :=
  { t with
    stall := startTimer now u.stallTime
    check := if wasIssued then startTimer now u.checkTime else t.check }

/-- A fill observation handed to STU: slot, low offset, end (R24, R38, R39). -/
def fillObservation (s : State) (n : Fin 8) (low fillEnd : Nat) : State :=
  let x := s.slot n
  if x.state.unlanded && x.counts low then
    let marked := s.setSlot n (x.filled fillEnd s.now s.setup.gapLimit)
    let timed := marked.setTimers n (timersAfterFill (s.timers n) (decide (x.state = .issued)) s.now s.setup)
    landIfFull timed n
  else s

/-! ### Drain (R46, R47) -/

/-- A drain observation on an unlanded slot (R46). -/
def drainUnlanded (s : State) (n : Fin 8) (drainEnd : Nat) : State :=
  let x := s.slot n
  let moved := { x with drainMark := max x.drainMark (min drainEnd x.fillMark) }
  if x.fillMark < drainEnd ∧ x.earlyUnderrun = false then
    reportEvent (s.setSlot n { moved with earlyUnderrun := true }) .underrun .underruns
  else s.setSlot n moved

/-- A drain observation on a landed slot (R47): an end that does not pass the drain mark leaves the slot as it was. DESIGN CHOICE:
one that lies wholly at or beyond the length moves the mark to the length, by R47's formula, where R43 says that drain
observations beyond the length are not counted (notes/assumptions/22.md). -/
def drainLanded (s : State) (n : Fin 8) (drainEnd : Nat) : State :=
  let x := s.slot n
  let mark := min drainEnd (x.length.getD 0)
  if mark ≤ x.drainMark then s
  else
    let moved := s.setSlot n { x with drainMark := mark, state := .draining }
    let credited := growTally moved (.dwellTime x.rung) (x.played mark - x.played x.drainMark)
    if some mark = x.length then consume credited n else credited

/-- A drain observation handed to STU: slot, end (R25, R46, R47). -/
def drainObservation (s : State) (n : Fin 8) (drainEnd : Nat) : State :=
  if (s.slot n).state.unlanded then drainUnlanded s n drainEnd
  else if (s.slot n).state.hasLanded then drainLanded s n drainEnd
  else s

/-! ### The declared length (R41 to R43) -/

/-- A slot record with a declared length taken by R41, R42 or R43, before any landing. -/
def Slot.withLength (x : Slot) (v : Nat) : Slot :=
  if x.capacity < v then { x with length := some x.capacity, overfill := true }
  else if v < x.fillMark then
    { x with length := some v, fillMark := v, drainMark := min x.drainMark v, overfill := true }
  else { x with length := some v }

/-- The declared length is clamped to the capacity or clamps the fill mark (R42, R43). -/
def Slot.overfills (x : Slot) (v : Nat) : Bool := decide (x.capacity < v) || decide (v < x.fillMark)

/-- A LENGTH request that VU passes to STU for an unlanded slot whose length is absent (R41 to R43, R40). -/
def declareLength (s : State) (n : Fin 8) (v : Nat) : State :=
  let x := s.slot n
  let marked := s.setSlot n (x.withLength v)
  landIfFull (if x.overfills v then raiseFlag marked .overfill else marked) n

end Sys2Proof.Machine
end

