-- ==== Sys2Proof/Machine/Report.lean ====
section
/-! DEFINITION. The bytes the part supplies: the report (R152, R156, section 10.2.2), its snapshot (R153), and the verdict
half of a ticket (R30, section 10.2.1). -/

namespace Sys2Proof.Machine

/-- A little-endian field the part supplies: offset, width in bytes, value (R156). -/
structure Field where
  offset : Nat
  width : Nat
  value : Nat
  deriving DecidableEq, Repr

/-- Byte `i` of a little-endian value. -/
def byteOf (value i : Nat) : Byte := BitVec.ofNat 8 (value / 256 ^ i)

/-- The byte at an offset of a field table: of the first field that covers it, and 0 where none does (R156). -/
def fieldsByte : List Field → Nat → Byte
  | [], _ => 0
  | f :: rest, a =>
    if f.offset ≤ a ∧ a < f.offset + f.width then byteOf f.value (a - f.offset) else fieldsByte rest a

/-- A mark or level: 0 clear or low, 1 set or high (R156). -/
def markValue (b : Bool) : Nat := if b then 1 else 0

/-! ### The numbers of named values (R156) -/

/-- Governor states (R1). -/
def governorValue : Governor → Nat
  | .dormant => 0
  | .ready => 1
  | .warmup => 2
  | .adapting => 3
  | .suspended => 4

/-- The remembered state: the value of WARMUP or ADAPTING, 0 while absent (R16). -/
def rememberedValue : Option Remembered → Nat
  | none => 0
  | some .warmup => 2
  | some .adapting => 3

/-- Slot states (R156). -/
def slotStateValue : SlotState → Nat
  | .free => 0
  | .issued => 1
  | .filling => 2
  | .advised => 3
  | .landed => 4
  | .draining => 5

/-- Verdict codes (R89). -/
def verdictCodeValue : VerdictCode → Nat
  | .go => 1
  | .hold => 2
  | .done => 3
  | .full => 4
  | .duplicate => 5
  | .overlap => 6
  | .badreq => 7
  | .small => 8
  | .unknown => 9
  | .notArmed => 10
  | .suspended => 11
  | .already => 12

/-- Record positions (R131). -/
def positionValue : Position → Nat
  | .setup => 0
  | .ladder => 1
  | .windows => 2
  | .directive => 3

/-- Rejection reasons (R131). -/
def rejectReasonValue : RejectReason → Nat
  | .check => 1
  | .shape => 2
  | .inuse => 3

/-- Directive-note reasons (R5). -/
def directiveReasonValue : DirectiveReason → Nat
  | .unknown => 1
  | .notReady => 2
  | .armed => 3
  | .notArmed => 4
  | .notSuspended => 5
  | .suspended => 6

/-- Congestion states (R156). -/
def congestionValue : Congestion → Nat
  | .clear => 0
  | .congested => 1

/-! ### The verdict half (section 10.2.1) -/

/-- The fields of a latched verdict, by ticket offset (section 10.2.1). -/
def verdictFields (v : Verdict) : List Field :=
  [⟨32, 1, verdictCodeValue v.code⟩, ⟨33, 1, v.echo.toNat⟩, ⟨34, 1, v.rung⟩, ⟨35, 1, v.slot⟩, ⟨36, 1, v.holdUnits⟩,
    ⟨40, 4, v.expected⟩, ⟨44, 4, v.decisionTick.toNat⟩, ⟨48, 4, v.deadlineTick.toNat⟩, ⟨52, 4, v.bufferLevel⟩,
    ⟨56, 4, v.safeRate⟩]

/-- The byte of a verdict half at a ticket offset: NONE with all fields 0 when no verdict is latched (R30). -/
def verdictByte (v : Option Verdict) (offset : Nat) : Byte :=
  match v with
  | none => 0
  | some v => fieldsByte (verdictFields v) offset

/-! ### The report (section 10.2.2) -/

/-- The header line: family code, part number, revision, capabilities (R152). -/
def headerFields (s : State) : List Field :=
  [⟨0x400, 1, 0x47⟩, ⟨0x401, 1, 46⟩, ⟨0x402, 1, s.eru.revision.toNat⟩, ⟨0x404, 1, 8⟩, ⟨0x405, 1, 12⟩, ⟨0x406, 1, 16⟩,
    ⟨0x407, 1, 8⟩]

/-- The stamps and pending mark of a record position in the status part (R144). -/
def positionFields (s : State) (p : Position) : List Field :=
  [⟨0x444 + positionValue p, 1, (s.position p).adoptedStamp.toNat⟩,
    ⟨0x448 + positionValue p, 1, (s.position p).rejectedStamp.toNat⟩,
    ⟨0x44C + positionValue p, 1, markValue (s.position p).pending⟩]

/-- The three notes; the fields of an absent note read 0 (R144). -/
def noteFields (s : State) : List Field :=
  (match s.ccu.rejectionNote with
    | none => []
    | some r => [⟨0x450, 1, positionValue r.position⟩, ⟨0x451, 1, rejectReasonValue r.reason⟩, ⟨0x452, 1, r.stamp.toNat⟩])
  ++ (match s.ccu.clampNote with
    | none => []
    | some c => [⟨0x454, 1, positionValue c.position⟩, ⟨0x455, 1, c.count⟩, ⟨0x456, 1, c.first⟩])
  ++ (match s.ccu.directiveNote with
    | none => []
    | some d => [⟨0x458, 1, d.code.toNat⟩, ⟨0x459, 1, d.entry⟩, ⟨0x45A, 1, directiveReasonValue d.reason⟩])

/-- The playout queue: its slot numbers from an offset on, in queue order (R58). -/
def queueFields (offset : Nat) : List (Fin 8) → List Field
  | [] => []
  | n :: rest => ⟨offset, 1, n.val⟩ :: queueFields (offset + 1) rest

/-- The status part (R152). -/
def statusFields (s : State) : List Field :=
  [⟨0x440, 1, governorValue s.sc.governor⟩, ⟨0x441, 1, rememberedValue s.sc.remembered⟩, ⟨0x442, 1, s.ccu.counter⟩,
    ⟨0x443, 1, markValue s.evt⟩]
  ++ allPositions.flatMap (positionFields s) ++ noteFields s
  ++ [⟨0x45C, 2, s.eru.flags.toNat⟩, ⟨0x45E, 2, s.eru.enables.toNat⟩, ⟨0x460, 1, s.stu.queue.length⟩]
  ++ queueFields 0x461 s.stu.queue

/-- The estimator line (R152). -/
def estimatorFields (s : State) : List Field :=
  [⟨0x4C0, 1, s.vu.currentRung⟩, ⟨0x4C1, 1, s.vu.dwell⟩, ⟨0x4C2, 1, congestionValue s.te.congestion⟩,
    ⟨0x4C3, 1, markValue s.te.valid⟩, ⟨0x4C4, 1, s.te.ring.length⟩, ⟨0x4C5, 1, s.sc.warmupCount⟩, ⟨0x4C8, 4, s.te.fast⟩,
    ⟨0x4CC, 4, s.te.slow⟩, ⟨0x4D0, 4, safeRate s⟩, ⟨0x4D4, 4, s.bufferLevel⟩, ⟨0x4D8, 4, s.now.toNat⟩]

/-- The indications byte of a slot entry (section 10.2.2). -/
def indications (x : Slot) : Nat :=
  markValue x.advisedRung.isSome + 2 * markValue x.stalled + 4 * markValue x.overfill + 8 * markValue x.earlyUnderrun

/-- The entry of slot `n` in the slot table (R58). -/
def slotFields (s : State) (n : Fin 8) : List Field :=
  let x := s.slot n
  let at_ := 0x500 + 32 * n.val
  [⟨at_, 1, slotStateValue x.state⟩, ⟨at_ + 0x01, 1, x.rung⟩, ⟨at_ + 0x02, 1, x.advisedRung.getD 0⟩,
    ⟨at_ + 0x03, 1, indications x⟩, ⟨at_ + 0x04, 2, x.duration⟩, ⟨at_ + 0x08, 4, x.segment⟩,
    ⟨at_ + 0x0C, 4, x.length.getD 0⟩, ⟨at_ + 0x10, 4, x.fillMark⟩, ⟨at_ + 0x14, 4, x.drainMark⟩,
    ⟨at_ + 0x18, 4, x.expected⟩, ⟨at_ + 0x1C, 4, x.issueTick.toNat⟩]

/-- The sample ring from entry `i` on, with its rate column (R78). -/
def sampleFields (i : Nat) : List Sample → List Field
  | [] => []
  | x :: rest =>
    [⟨0x600 + 16 * i, 4, x.segment⟩, ⟨0x604 + 16 * i, 4, x.bytes⟩, ⟨0x608 + 16 * i, 4, x.activeMs⟩,
      ⟨0x60C + 16 * i, 4, x.landing.toNat⟩, ⟨0x680 + 4 * i, 3, x.rate⟩, ⟨0x683 + 4 * i, 1, x.rung⟩]
    ++ sampleFields (i + 1) rest

/-- Four-byte counts in order from an offset on. -/
def countFields (offset : Nat) : List Nat → List Field
  | [] => []
  | c :: rest => ⟨offset, 4, c⟩ :: countFields (offset + 4) rest

/-- The tallies, in the order of section 10.2.2: the eleven event tallies, then the dwell times of rungs 0..11. -/
def tallyFields (t : Tallies) : List Field :=
  countFields 0x6A0 ([t.landed, t.gated, t.underruns, t.stalls, t.advices, t.unheeded, t.upSwitches, t.downSwitches,
    t.holds, t.rejections, t.refusals] ++ t.dwellTime.toList)

/-- Every field of the report (section 10.2.2). -/
def reportFields (s : State) : List Field :=
  headerFields s ++ statusFields s ++ estimatorFields s ++ allSlots.flatMap (slotFields s) ++ sampleFields 0 s.te.ring
    ++ tallyFields s.eru.tallies

/-- The 1,024 report bytes of a state, from page offset 0x400 on (R152). -/
def reportBytes (s : State) : List Byte := (List.range 1024).map (fun i => fieldsByte (reportFields s) (0x400 + i))

/-- A new snapshot of all report contents (R153). S of a state with no SETUP adopted uses up a free value
(notes/assumptions/7.md). -/
def takeSnapshot (s : State) : State :=
  { s with
    eru := { s.eru with snapshot := reportBytes s }
    freeCount := if s.ccu.adoptedSetup.isNone ∧ lowerEstimate s ≠ 0 then s.freeCount + 1 else s.freeCount }

/-- The snapshot byte at a page offset of the report area (R29). -/
def State.reportByte (s : State) (offset : Nat) : Byte := s.eru.snapshot.getD (offset - 0x400) 0

end Sys2Proof.Machine
end

