-- ==== Sys2Proof/Machine/Rungs.lean ====
section
/-! DEFINITION. The rung ladder: effective rates, expected bytes and the candidate search (Chapter 5). -/

namespace Sys2Proof.Machine

/-- Rung `k` of a ladder; no use reads beyond N − 1. -/
def ladderRung (l : Ladder) (k : Nat) : Rung := l.rungs.getD k { nominal := 0, trim := 0 }

/-- The rung count N (R79). -/
def rungCount (l : Ladder) : Nat := l.rungs.length

/-- The effective rate e_k = max(1, r_k + 16 × t_k) (R80). -/
def effectiveRate (r : Rung) : Nat := (max 1 ((r.nominal : Int) + 16 * r.trim)).toNat

/-- The candidate below rung `j` for a limit: the highest rung below `j` whose effective rate is at or below the limit,
and 0 if there is none or `j` is 0 (R87). -/
def candidateBelow (l : Ladder) (limit : Nat) : Nat → Nat
  | 0 => 0
  | k + 1 => if effectiveRate (ladderRung l k) ≤ limit then k else candidateBelow l limit k

/-- The candidate rung for a rate: the search of R87 over the whole ladder (R86). -/
def candidate (l : Ladder) (rate : Nat) : Nat := candidateBelow l rate (rungCount l)

/-- The expected bytes of rung `k` for a duration in ms, by its nominal rate (R85). -/
def expectedBytes (l : Ladder) (k duration : Nat) : Nat := (ladderRung l k).nominal * duration / 8

/-- The capacity fit: the highest rung at or below the given one whose expected bytes are within the capacity, with those
bytes; none when even rung 0 does not fit (R106). -/
def capacityFit (l : Ladder) (duration capacity : Nat) : Nat → Option (Nat × Nat)
  | 0 => if expectedBytes l 0 duration ≤ capacity then some (0, expectedBytes l 0 duration) else none
  | k + 1 =>
    if expectedBytes l (k + 1) duration ≤ capacity then some (k + 1, expectedBytes l (k + 1) duration)
    else capacityFit l duration capacity k

end Sys2Proof.Machine
end

