-- ==== Sys2Proof/Machine/Session.lean ====
section
/-! DEFINITION. The Session Controller and the directives (Chapter 1, R142). -/

namespace Sys2Proof.Machine

/-- A directive ignored or unknown, recorded in the last-directive note (R5). -/
def noteDirective (s : State) (code : Byte) (entry : Nat) (reason : DirectiveReason) : State :=
  { s with ccu := { s.ccu with directiveNote := some { code := code, entry := entry, reason := reason } } }

/-- The session values of an ARM that is taken (R6, R7). -/
def armSession (s : State) : State :=
  let u := s.setup
  { s with
    sc :=
      { s.sc with governor := if u.warmupLength = 0 then .adapting else .warmup, warmupCount := 0 }
    te :=
      { s.te with
        fast := if s.te.valid then s.te.fast else u.seed
        slow := if s.te.valid then s.te.slow else u.seed
        congestion := .clear }
    vu :=
      { s.vu with
        currentRung := min u.startRung (min u.capRung (rungCount s.ladder - 1)), dwell := 0 } }

/-- ARM (R6). -/
def takeArm (s : State) (entry : Nat) : State :=
  match s.sc.governor with
  | .ready => armSession s
  | .dormant => noteDirective s 1 entry .notReady
  | .warmup | .adapting | .suspended => noteDirective s 1 entry .armed

/-- SUSPEND (R8). -/
def takeSuspend (s : State) (entry : Nat) : State :=
  match s.sc.governor with
  | .warmup => { s with sc := { s.sc with governor := .suspended, remembered := some .warmup } }
  | .adapting => { s with sc := { s.sc with governor := .suspended, remembered := some .adapting } }
  | .dormant | .ready => noteDirective s 2 entry .notArmed
  | .suspended => noteDirective s 2 entry .suspended

/-- The governor state a RESUME returns to: the remembered state, going on from WARMUP when the count has reached W (R9).
No reachable SUSPENDED state lacks a remembered state; from one that did, nothing would be returned to. -/
def resumedGovernor (s : State) : Governor :=
  match s.sc.remembered with
  | some .adapting => .adapting
  | some .warmup => if s.setup.warmupLength ≤ s.sc.warmupCount then .adapting else .warmup
  | none => s.sc.governor

/-- RESUME (R9). -/
def takeResume (s : State) (entry : Nat) : State :=
  match s.sc.governor with
  | .suspended => { s with sc := { s.sc with governor := resumedGovernor s, remembered := none } }
  | .dormant | .ready => noteDirective s 3 entry .notArmed
  | .warmup | .adapting => noteDirective s 3 entry .notSuspended

/-- FLUSH: every slot freed, dwell count 0, in every governor state (R11, R56, R90). -/
def takeFlush (s : State) : State :=
  let freed := freeAllSlots s
  { freed with vu := { freed.vu with dwell := 0 } }

/-- A ticket whose entry is cleared; its shadow is kept (R90). -/
def Ticket.cleared (t : Ticket) : Ticket := { t with stamp := 0, verdict := none }

/-- TEARDOWN (R10, R56, R90). -/
def takeTeardown (s : State) (entry : Nat) : State :=
  match s.sc.governor with
  | .warmup | .adapting | .suspended =>
    let freed := freeAllSlots s
    { freed with
      sc := { s.sc with governor := .ready, remembered := none }
      vu := { s.vu with tickets := s.vu.tickets.map Ticket.cleared } }
  | .dormant | .ready => noteDirective s 5 entry .notArmed

/-- RESTART: every block at its RESTART values, then a snapshot, within one event (R2, R12, R36, R60, R90, R114, R132, R145).
Kept: the page base (R20), the time base (R33), the capture shadow (R132) and the sampled revision (R152). DESIGN CHOICE: the flags
and tallies of expiries taken before it are cleared with all the others, by R145, where R129 says that those of an expiry taken
before a freeing RESTART stand (notes/assumptions/23.md). -/
def takeRestart (s : State) : State :=
  takeSnapshot
    { s with
      ccu := { State.reset.ccu with shadow := s.ccu.shadow }
      sc := State.reset.sc
      stu := State.reset.stu
      te := State.reset.te
      vu := State.reset.vu
      pm := State.reset.pm
      eru :=
        { s.eru with
          flags := State.reset.eru.flags, enables := State.reset.eru.enables, tallies := State.reset.eru.tallies } }

/-- One directive entry, other than the code 0 and RESTART that end a list (R142). -/
def takeEntry (s : State) (code : Byte) (argument : BitVec 32) (entry : Nat) : State :=
  if code = 1 then takeArm s entry
  else if code = 2 then takeSuspend s entry
  else if code = 3 then takeResume s entry
  else if code = 4 then takeFlush s
  else if code = 5 then takeTeardown s entry
  else if code = 7 then seedEstimates s argument
  else if code = 8 then clearAllTallies s
  else if code = 9 then ackFlags s argument
  else if code = 10 then setEnables s argument
  else noteDirective s code entry .unknown

/-- The entries of a directive list, from index `entry` on: the list ends at code 0, after RESTART, or at its last entry
(R5, R12, R142). -/
def takeEntries (s : State) (entry : Nat) : List (Byte × BitVec 32) → State
  | [] => s
  | (code, argument) :: rest =>
    if code = 0 then s
    else if code = 6 then takeRestart s
    else takeEntries (takeEntry s code argument entry) (entry + 1) rest

/-- All three configuration positions are configured (R3). -/
def State.configured (s : State) : Bool :=
  decide (s.ccu.posSetup.adoptedStamp ≠ 0) && decide (s.ccu.posLadder.adoptedStamp ≠ 0)
    && decide (s.ccu.posWindows.adoptedStamp ≠ 0)

/-- SC's readiness test at a SETUP, LADDER or WINDOWS adoption (R3). -/
def readinessTest (s : State) : State :=
  if s.sc.governor = .dormant ∧ s.configured = true then { s with sc := { s.sc with governor := .ready } } else s

/-- SC's warmup test at a SETUP adoption (R15). -/
def warmupTest (s : State) : State :=
  if s.sc.governor = .warmup ∧ s.setup.warmupLength ≤ s.sc.warmupCount then
    { s with sc := { s.sc with governor := .adapting } }
  else s

end Sys2Proof.Machine
end

