-- ==== Sys2Proof/Machine/ControlRecords.lean ====
section
/-! DEFINITION. The Control Capture Unit: the capture shadow, evaluation, rejection and adoption (Chapter 8). -/

namespace Sys2Proof.Machine

/-- The stamp of the record a position's shadow holds: its first byte (R131). -/
def shadowStamp (s : State) (p : Position) : Byte := readByte s.ccu.shadow (positionOffset p)

/-- A position left without action, or no longer pending: mark clear, settle timer stopped (R135). -/
def PositionState.settled (x : PositionState) : PositionState := { x with pending := false, settle := none }

/-- A rejection's note and report; the rejected stamp is set apart from it (R137). -/
def reportRejection (s : State) (p : Position) (reason : RejectReason) : State :=
  let noted := { s with ccu := { s.ccu with rejectionNote := some { position := p, reason := reason, stamp := shadowStamp s p } } }
  reportEvent noted .reject .rejections

/-- A SHAPE or INUSE rejection (R137). -/
def rejectRecord (s : State) (p : Position) (reason : RejectReason) : State :=
  let stamped := s.setPosition p { (s.position p).settled with rejectedStamp := shadowStamp s p }
  reportRejection stamped p reason

/-- A settle expiry: with the pending mark set, a CHECK rejection, which leaves the rejected stamp (R136, R137). -/
def settleExpires (s : State) (p : Position) : State :=
  let settled := s.setPosition p (s.position p).settled
  if (s.position p).pending then reportRejection settled p .check else settled

/-- The adoption counter advanced: 1, 2, … 63, and after 63 to 1 (R139). -/
def advanced (counter : Nat) : Nat := if 63 ≤ counter then 1 else counter + 1

/-- An adoption's content taken into effect, with its clamp note (R138, step 1; R140). -/
def adoptContent (s : State) (p : Position) : State :=
  match p with
  | .setup =>
    let u := readSetup s.ccu.shadow
    { s with ccu :=
        { s.ccu with
          adoptedSetup := some (settingsValues u), clampNote := some (clampNoteOf p (alteredFrom 1 (settingsList u))) } }
  | .ladder => { s with ccu := { s.ccu with adoptedLadder := some (readLadder s.ccu.shadow) } }
  | .windows =>
    { s with ccu :=
        { s.ccu with
          adoptedWindows := some (readWindows s.ccu.shadow)
          clampNote := some (clampNoteOf p (windowsAltered s.ccu.shadow)) } }
  | .directive => s

/-- An adoption's stamps and counter (R138, steps 2 and 3). -/
def stampAdopted (s : State) (p : Position) : State :=
  let stamped := s.setPosition p
    { adoptedStamp := shadowStamp s p, rejectedStamp := 0, pending := false, settle := none }
  { stamped with ccu := { stamped.ccu with counter := advanced s.ccu.counter } }

/-- What follows an adoption: SC's tests, or the directive list (R138, steps 4 and 5). -/
def afterAdoption (s : State) (p : Position) : State :=
  match p with
  | .setup => warmupTest (readinessTest s)
  | .ladder | .windows => readinessTest s
  | .directive => takeEntries s 0 (readEntries s.ccu.shadow)

/-- An adoption (R138). -/
def adoptRecord (s : State) (p : Position) : State := afterAdoption (stampAdopted (adoptContent s p) p) p

/-- The content of a position's record passes its shape test; SETUP and DIRECTIVE have none (R135). -/
def shapePasses (s : State) (p : Position) : Bool :=
  match p with
  | .ladder => ladderShape s.ccu.shadow
  | .windows => windowsShape s
  | .setup | .directive => true

/-- The INUSE test applies to LADDER and WINDOWS, and fails while any slot is non-FREE (R82, R135, R141). -/
def inUse (s : State) (p : Position) : Bool :=
  match p with
  | .ladder | .windows => s.anyLive
  | .setup | .directive => false

/-- An evaluation of a record position, at the run's part time (R135). -/
def evaluate (s : State) (p : Position) : State :=
  let stamp := shadowStamp s p
  if stamp = 0 then s.setPosition p (s.position p).settled
  else if !checkMatches s.ccu.shadow p then
    s.setPosition p { s.position p with pending := true, settle := some s.now }
  else if stamp = (s.position p).adoptedStamp ∨ stamp = (s.position p).rejectedStamp then
    s.setPosition p (s.position p).settled
  else if !shapePasses s p then rejectRecord s p .shape
  else if inUse s p then rejectRecord s p .inuse
  else adoptRecord s p

/-- A control-area run's strobed bytes, at their page offsets, written into the capture shadow (R133). -/
def captureBytes (s : State) (bytes : List (Nat × Byte)) : State :=
  { s with ccu := { s.ccu with shadow := writeBytes s.ccu.shadow bytes } }

/-- A control-area run: into the shadow, then the position it touches is evaluated (R21, R133, R135). -/
def controlRun (s : State) (p : Position) (bytes : List (Nat × Byte)) : State := evaluate (captureBytes s bytes) p

end Sys2Proof.Machine
end

