-- ==== Sys2Proof/Machine/Progress.lean ====
section
/-! DEFINITION. The Progress Monitor: advice, and the stall, check and grace expiries (Chapter 7).
Each expiry is one event; whether it is due is `TimeBase`'s matter. -/

namespace Sys2Proof.Machine

/-- The conditions of R119 that do not name a timer: governor state, mode, abandon enable, rung. -/
def adviceAllowed (s : State) (x : Slot) : Bool :=
  (decide (s.sc.governor = .warmup) || decide (s.sc.governor = .adapting)) && decide (s.setup.mode = 0)
    && decide (s.setup.abandonEnable = 1) && decide (0 < x.rung)

/-- The rate so far y = floor(fill mark × 8 ÷ max(1, active ms)) (R120). -/
def Slot.rateSoFar (x : Slot) : Nat := x.fillMark * 8 / max 1 x.activeMs

/-- The bytes remaining, against the length or else the expected bytes, floored at 0 (R120). -/
def Slot.remaining (x : Slot) : Nat := x.length.getD x.expected - x.fillMark

/-- The projection p = ceil(bytes remaining × 8 ÷ y), for y above 0 (R121). -/
def projection (remaining y : Nat) : Nat := (remaining * 8 + y - 1) / y

/-- The fetch is judged late: bytes remain, and the projection, unbounded at y = 0, exceeds B − guard, signed (R120, R121). -/
def judgedLate (x : Slot) (bufferLevel guard : Nat) : Bool :=
  decide (0 < x.remaining) &&
    (decide (x.rateSoFar = 0) ||
      decide ((bufferLevel : Int) - (guard : Int) < (projection x.remaining x.rateSoFar : Int)))

/-- The replacement rung: the candidate below the slot's rung for floor(y × σ_cur ÷ 256) (R123). -/
def replacementRung (s : State) (x : Slot) : Nat :=
  candidateBelow s.ladder (x.rateSoFar * sigmaInForce s / 256) x.rung

/-- Advice on a slot (R122): ADVISED with its replacement rung, check stopped, ADVISE reported, grace started (R117). -/
def advise (s : State) (n : Fin 8) : State :=
  let x := s.slot n
  let marked := s.setSlot n { x with state := .advised, advisedRung := some (replacementRung s x) }
  let reported := reportEvent marked .advise .advices
  reported.setTimers n { s.timers n with check := none, grace := startTimer s.now s.setup.graceTime }

/-- A check expiry (R116, R119 to R122): advice, or the check timer restarted on a slot that is still FILLING. -/
def checkExpires (s : State) (n : Fin 8) : State :=
  let x := s.slot n
  if x.state = .filling then
    if judgedLate x s.bufferLevel s.setup.guard && adviceAllowed s x then advise s n
    else s.setTimers n { s.timers n with check := startTimer s.now s.setup.checkTime }
  else s.setTimers n { s.timers n with check := none }

/-- A stall expiry (R115, R124, R125): the timer stops, the slot is marked, STALL is reported, and stall advice is given to a
slot in ISSUED or FILLING when advice is permitted. -/
def stallExpires (s : State) (n : Fin 8) : State :=
  let x := s.slot n
  let stopped := s.setTimers n { s.timers n with stall := none }
  let marked := reportEvent (stopped.setSlot n { x with stalled := true }) .stall .stalls
  if (decide (x.state = .issued) || decide (x.state = .filling)) && adviceAllowed s x then advise marked n else marked

/-- A grace expiry (R126): the timer stops and UNHEEDED is reported. -/
def graceExpires (s : State) (n : Fin 8) : State :=
  reportEvent (s.setTimers n { s.timers n with grace := none }) .unheeded .unheeded

end Sys2Proof.Machine
end

