-- ==== Sys2Proof/Machine/TimeBase.lean ====
section
/-! DEFINITION. The Time Base (R33) and when timers expire (R34). A timer expires at the tick that brings its interval to its
duration, and an observation taken after that tick finds it expired. The expiries due at a tick are steps of their own
(spec/95); any that no command has taken are taken before whatever comes next (notes/assumptions/3.md). -/

namespace Sys2Proof.Machine

/-- The settle timer of a position is due. -/
def State.settleDue (s : State) (p : Position) : Bool := settleTimerDue s.now (s.position p).settle

/-- The stall timer of a slot is due. -/
def State.stallDue (s : State) (n : Fin 8) : Bool := timerDue s.now (s.timers n).stall

/-- The check timer of a slot is due. -/
def State.checkDue (s : State) (n : Fin 8) : Bool := timerDue s.now (s.timers n).check

/-- The grace timer of a slot is due. -/
def State.graceDue (s : State) (n : Fin 8) : Bool := timerDue s.now (s.timers n).grace

/-- No timer is due: every expiry of the ticks so far has been taken. -/
def State.noneDue (s : State) : Bool :=
  allPositions.all (fun p => !s.settleDue p)
    && allSlots.all (fun n => !s.stallDue n && !s.checkDue n && !s.graceDue n)

/-- The stall expiry of a slot, if it is due (R124). -/
def stallIfDue (s : State) (n : Fin 8) : State := if s.stallDue n then stallExpires s n else s

/-- The check expiry of a slot, if it is due (R120). -/
def checkIfDue (s : State) (n : Fin 8) : State := if s.checkDue n then checkExpires s n else s

/-- The grace expiry of a slot, if it is due (R126). -/
def graceIfDue (s : State) (n : Fin 8) : State := if s.graceDue n then graceExpires s n else s

/-- The settle expiry of a position, if it is due (R136). -/
def settleIfDue (s : State) (p : Position) : State := if s.settleDue p then settleExpires s p else s

/-- The due expiries of one slot. -/
def slotExpiries (s : State) (n : Fin 8) : State := graceIfDue (checkIfDue (stallIfDue s n) n) n

/-- The due settle expiries. The manual gives no order among those of one tick, and the rejection note keeps the last: which is
last is a free value (notes/assumptions/8.md). -/
def settleExpiries (s : State) : State :=
  match allPositions.filter s.settleDue with
  | [] => s
  | [p] => settleExpires s p
  | p :: rest =>
    let last := (p :: rest).getD (Config.freeLastSettle s.freeCount % (p :: rest).length) p
    let others := ((p :: rest).filter (fun x => decide (x ≠ last))).foldl settleExpires s
    { settleExpires others last with freeCount := s.freeCount + 1 }

/-- Every expiry that is due taken (R34). -/
def takeDueExpiries (s : State) : State := allSlots.foldl slotExpiries (settleExpiries s)

/-- A tick: the prescaler count returns to 0 and part time grows by 1 modulo 2^32 (R33). The silence of every unlanded slot is
measured against the new part time (R61). -/
def tickTime (s : State) : State :=
  { s with
    tb := { s.tb with count := 0, partTime := s.tb.partTime + 1 }
    stu := { s.stu with slots := s.stu.slots.map (fun x => x.afterTick (s.tb.partTime + 1)) } }

/-- One REFCLK period: the prescaler count grows by 1, or, having reached P, returns to 0 with a tick (R33). -/
def refclkTime (s : State) : State :=
  if s.tb.count < s.tb.prescaler then { s with tb := { s.tb with count := s.tb.count + 1 } } else tickTime s

/-- An event taken while RST is released: the expiries due come first. While RST is asserted nothing happens (R32). -/
def whenReleased (s : State) (event : State → State) : State :=
  if s.pif.resetAsserted then s else event (takeDueExpiries s)

/-- An expiry step: taken only if its timer is due, with RST released (R34). -/
def expiryStep (s : State) (due : State → Bool) (event : State → State) : State :=
  if s.pif.resetAsserted then s else if due s then event s else s

end Sys2Proof.Machine
end

