-- ==== Sys2Proof/Machine/DirectiveCommands.lean ====
section
/-! DEFINITION. The directives as commands: each is one entry of an adopted directive list (R5, R142), taken as a step of its
own with its entry index (notes/assumptions/5.md). -/

namespace Sys2Proof.Machine

/-- ARM (R6, R7). -/
def execArm (entry : Fin 6) (s : State) : Host.Outcome State Fault Refusal :=
  .next (whenReleased s (fun t => takeArm t entry.val))

/-- SUSPEND (R8). -/
def execSuspend (entry : Fin 6) (s : State) : Host.Outcome State Fault Refusal :=
  .next (whenReleased s (fun t => takeSuspend t entry.val))

/-- RESUME (R9). -/
def execResume (entry : Fin 6) (s : State) : Host.Outcome State Fault Refusal :=
  .next (whenReleased s (fun t => takeResume t entry.val))

/-- FLUSH (R11, R56). -/
def execFlush (s : State) : Host.Outcome State Fault Refusal := .next (whenReleased s takeFlush)

/-- TEARDOWN (R10, R56). -/
def execTeardown (entry : Fin 6) (s : State) : Host.Outcome State Fault Refusal :=
  .next (whenReleased s (fun t => takeTeardown t entry.val))

/-- RESTART (R12, R145, R154). -/
def execRestart (s : State) : Host.Outcome State Fault Refusal := .next (whenReleased s takeRestart)

/-- SEED (R70). -/
def execSeed (rate : BitVec 32) (s : State) : Host.Outcome State Fault Refusal :=
  .next (whenReleased s (fun t => seedEstimates t rate))

/-- CLEAR_TALLIES (R151). -/
def execClearTallies (s : State) : Host.Outcome State Fault Refusal := .next (whenReleased s clearAllTallies)

/-- ACK (R147). -/
def execAck (mask : BitVec 32) (s : State) : Host.Outcome State Fault Refusal :=
  .next (whenReleased s (fun t => ackFlags t mask))

/-- ENABLE (R148). -/
def execEnable (mask : BitVec 32) (s : State) : Host.Outcome State Fault Refusal :=
  .next (whenReleased s (fun t => setEnables t mask))

/-- UNKNOWN_DIRECTIVE (R142). -/
def execUnknownDirective (code : Byte) (entry : Fin 6) (s : State) : Host.Outcome State Fault Refusal :=
  .next (whenReleased s (fun t => noteDirective t code entry.val .unknown))

end Sys2Proof.Machine
end

