-- ==== Sys2Proof/Machine/ExpiryCommands.lean ====
section
/-! DEFINITION. The expiry steps: SETTLE_EXPIRY, STALL_EXPIRY, CHECK_EXPIRY, GRACE_EXPIRY. A timer that is stopped, or whose
expiring tick has not come, does not expire (R34, R114). -/

namespace Sys2Proof.Machine

/-- SETTLE_EXPIRY (R136). -/
def execSettleExpiry (p : Position) (s : State) : Host.Outcome State Fault Refusal :=
  .next (expiryStep s (fun t => t.settleDue p) (fun t => settleExpires t p))

/-- STALL_EXPIRY (R124, R125). -/
def execStallExpiry (n : Fin 8) (s : State) : Host.Outcome State Fault Refusal :=
  .next (expiryStep s (fun t => t.stallDue n) (fun t => stallExpires t n))

/-- CHECK_EXPIRY (R120 to R122). -/
def execCheckExpiry (n : Fin 8) (s : State) : Host.Outcome State Fault Refusal :=
  .next (expiryStep s (fun t => t.checkDue n) (fun t => checkExpires t n))

/-- GRACE_EXPIRY (R126). -/
def execGraceExpiry (n : Fin 8) (s : State) : Host.Outcome State Fault Refusal :=
  .next (expiryStep s (fun t => t.graceDue n) (fun t => graceExpires t n))

end Sys2Proof.Machine
end

