-- ==== Sys2Proof/Machine/Verdicts.lean ====
section
/-! DEFINITION. The Verdict Unit: closing writes, and the FETCH, LENGTH, DROP and REPLACE decisions (Chapter 6).
A decision is a pair: the verdict, and the state it leaves. The part time of the decision is `State.now` (R93). -/

namespace Sys2Proof.Machine

/-! ### Verdict records (R94) -/

/-- A verdict that uses no field but its echo and its decision tick. -/
def plainVerdict (s : State) (code : VerdictCode) (echo : Byte) : Verdict :=
  { code := code, echo := echo, rung := 0, slot := 0, holdUnits := 0, expected := 0, decisionTick := s.now,
    deadlineTick := 0, bufferLevel := 0, safeRate := 0 }

/-- A verdict that also names a slot and a rung: DONE, ALREADY, DUPLICATE, and OVERLAP with rung 0. -/
def namingVerdict (s : State) (code : VerdictCode) (echo : Byte) (n : Fin 8) (rung : Nat) : Verdict :=
  { plainVerdict s code echo with slot := n.val, rung := rung }

/-- The deadline tick: the decision tick plus B, modulo 2^32 (R94). -/
def deadline (s : State) : Tick := s.now + BitVec.ofNat 32 s.bufferLevel

/-- A verdict that also carries the deadline tick, B and S: GO, HOLD and SMALL. -/
def timedVerdict (s : State) (code : VerdictCode) (echo : Byte) : Verdict :=
  { plainVerdict s code echo with
    deadlineTick := deadline s, bufferLevel := s.bufferLevel, safeRate := safeRate s }

/-- A verdict that counts as a refusal: FULL, DUPLICATE, OVERLAP, BADREQ or SMALL (R93). -/
def refuse (s : State) (v : Verdict) : Verdict × State := (v, growTally s .refusals 1)

/-! ### The steps of a FETCH (R98 to R107) -/

/-- The validity step (R99). -/
def requestValid (w : Windows) (q : Request) : Bool :=
  decide (1 ≤ q.duration) && decide (q.duration ≤ 20000) && decide (1 ≤ q.capacity) && decide (q.capacity ≤ w.maxCapacity)
    && decide (q.base < 2 ^ 40) && decide (w.low ≤ q.base) && decide (q.base + q.capacity ≤ w.high)

/-- Two windows share a byte (R100). -/
def windowsShare (b1 c1 b2 c2 : Nat) : Bool := decide (b1 < b2 + c2) && decide (b2 < b1 + c1)

/-- The lowest-numbered live slot whose window shares a byte with the request's (R100). -/
def State.overlapping (s : State) (q : Request) : Option (Fin 8) :=
  allSlots.find? (fun n =>
    (s.slot n).state.live && windowsShare q.base q.capacity (s.slot n).base (s.slot n).capacity)

/-- The hold units of a HOLD: floor(min(B − B_target, 1,270) ÷ 10) (R102). -/
def holdUnits (bufferLevel bTarget : Nat) : Nat := min (bufferLevel - bTarget) 1270 / 10

/-- The rung chosen in ADAPTING with B at or above B_panic (R104). -/
def adaptingRung (s : State) : Nat :=
  let c := candidate s.ladder (safeRate s)
  let r := s.vu.currentRung
  if c < r then c
  else if r < c ∧ s.setup.bUp ≤ s.bufferLevel ∧ s.te.congestion = .clear ∧ s.setup.dwellMin ≤ s.vu.dwell then r + 1
  else r

/-- The rung step (R103). -/
def rungStep (s : State) : Nat :=
  if s.setup.mode = 1 then s.setup.pinnedRung
  else if s.bufferLevel < s.setup.bPanic then 0
  else if s.sc.governor = .warmup then s.vu.currentRung
  else adaptingRung s

/-- The cap step: min(rung, cap rung, N − 1) (R105). -/
def capRung (s : State) (rung : Nat) : Nat := min rung (min s.setup.capRung (rungCount s.ladder - 1))

/-- The slot record a GO allocates (R37). -/
def issuedSlot (q : Request) (rung expected : Nat) (now : Tick) : Slot :=
  { Slot.empty with
    state := .issued, segment := q.segment, rung := rung, duration := q.duration, base := q.base, capacity := q.capacity,
    expected := expected, issueTick := now }

/-- Allocation of a slot, with its stall timer started (R37, R115). -/
def allocate (s : State) (n : Fin 8) (q : Request) (rung expected : Nat) : State :=
  (s.setSlot n (issuedSlot q rung expected s.now)).setTimers n
    { stall := startTimer s.now s.setup.stallTime, check := none, grace := none }

/-- The current rung and the dwell count after a GO at a rung, with SWITCH and its tallies (R107). -/
def noteRung (s : State) (rung : Nat) : State :=
  let r := s.vu.currentRung
  if rung = r then { s with vu := { s.vu with dwell := saturatingAdd 255 s.vu.dwell 1 } }
  else
    reportEvent { s with vu := { s.vu with currentRung := rung, dwell := 1 } } .switch
      (if r < rung then .upSwitches else .downSwitches)

/-- The cap, capacity-fit and GO steps for a chosen rung: GO, SMALL, or FULL with no slot FREE (R105 to R107). -/
def capFitGo (s : State) (q : Request) (rung : Nat) : Verdict × State :=
  match s.lowestFree with
  | none => refuse s (plainVerdict s .full q.stamp)
  | some n =>
    match capacityFit s.ladder q.duration q.capacity (capRung s rung) with
    | none => refuse s (timedVerdict s .small q.stamp)
    | some (k, expected) =>
      ({ timedVerdict s .go q.stamp with rung := k, slot := n.val, expected := expected },
        noteRung (allocate s n q k expected) k)

/-- A FETCH decided in its ten steps (R97). -/
def decideFetch (s : State) (q : Request) : Verdict × State :=
  match s.sc.governor with
  | .dormant | .ready => (plainVerdict s .notArmed q.stamp, s)
  | .suspended => (plainVerdict s .suspended q.stamp, s)
  | .warmup | .adapting =>
    if !requestValid s.windows q then refuse s (plainVerdict s .badreq q.stamp)
    else
      match s.liveHolding q.segment with
      | some n => refuse s (namingVerdict s .duplicate q.stamp n (s.slot n).rung)
      | none =>
        match s.overlapping q with
        | some n => refuse s (namingVerdict s .overlap q.stamp n 0)
        | none =>
          if s.lowestFree.isNone then refuse s (plainVerdict s .full q.stamp)
          else if s.setup.bFull ≤ s.bufferLevel then
            ({ timedVerdict s .hold q.stamp with holdUnits := holdUnits s.bufferLevel s.setup.bTarget },
              growTally s .holds 1)
          else capFitGo s q (rungStep s)

/-! ### LENGTH and DROP (R108, R109) -/

/-- A LENGTH decided (R108). -/
def decideLength (s : State) (q : Request) : Verdict × State :=
  if q.length = 0 then refuse s (plainVerdict s .badreq q.stamp)
  else
    match s.liveHolding q.segment with
    | none => (plainVerdict s .unknown q.stamp, s)
    | some n =>
      if (s.slot n).state.hasLanded then (plainVerdict s .unknown q.stamp, s)
      else if (s.slot n).length.isSome then (namingVerdict s .already q.stamp n (s.slot n).rung, s)
      else (namingVerdict s .done q.stamp n (s.slot n).rung, declareLength s n q.length)

/-- A DROP decided (R109). -/
def decideDrop (s : State) (q : Request) : Verdict × State :=
  match s.liveHolding q.segment with
  | none => (plainVerdict s .unknown q.stamp, s)
  | some n => (namingVerdict s .done q.stamp n (s.slot n).rung, freeSlot s n)

/-! ### REPLACE (R110, R111) -/

/-- The rung of a REPLACE: the smallest of the decision rung, the advised rung when present, and the old rung less 1
(R111, step 4). -/
def replacementChoice (decision : Nat) (advised : Option Nat) (oldRung : Nat) : Nat :=
  min (min decision (advised.getD decision)) (oldRung - 1)

/-- The new fetch of a REPLACE, once the old slot is freed (R111). -/
def decideRefetch (s : State) (q : Request) (old : Slot) : Verdict × State :=
  if !requestValid s.windows q then refuse s (plainVerdict s .badreq q.stamp)
  else
    match s.overlapping q with
    | some n => refuse s (namingVerdict s .overlap q.stamp n 0)
    | none => capFitGo s q (replacementChoice (rungStep s) old.advisedRung old.rung)

/-- A REPLACE decided (R110). -/
def decideReplace (s : State) (q : Request) : Verdict × State :=
  match s.sc.governor with
  | .dormant | .ready => (plainVerdict s .notArmed q.stamp, s)
  | .suspended => (plainVerdict s .suspended q.stamp, s)
  | .warmup | .adapting =>
    match s.unlandedHolding q.segment with
    | none => (plainVerdict s .unknown q.stamp, s)
    | some n =>
      if (s.slot n).rung = 0 then refuse s (plainVerdict s .badreq q.stamp)
      else decideRefetch (freeSlot s n) q (s.slot n)

/-! ### Requests and closing writes (R91 to R93) -/

/-- A request decided by its kind (R93). -/
def decideRequest (s : State) (q : Request) : Verdict × State :=
  if q.kind = 1 then decideFetch s q
  else if q.kind = 2 then decideLength s q
  else if q.kind = 3 then decideDrop s q
  else if q.kind = 4 then decideReplace s q
  else refuse s (plainVerdict s .badreq q.stamp)

/-- The answer to a request latched in its ticket: the verdict and the entry stamp (R92). -/
def latch (s : State) (t : Fin 16) (v : Verdict) (stamp : Byte) : State :=
  s.setTicket t { s.ticket t with stamp := stamp, verdict := some v }

/-- The request in a ticket's shadow taken, decided and latched (R93). -/
def takeRequest (s : State) (t : Fin 16) : State :=
  let q := readRequest (s.ticket t).shadow
  let d := decideRequest s q
  latch d.2 t d.1 q.stamp

/-- A closing write on a ticket, its bytes already in the shadow (R92). -/
def closeTicket (s : State) (t : Fin 16) : State :=
  let stamp := readByte (s.ticket t).shadow 0
  if stamp = 0 then s.setTicket t { s.ticket t with stamp := 0, verdict := none }
  else if stamp = (s.ticket t).stamp then s
  else takeRequest s t

/-- A request-half run's strobed bytes, at their offsets in the half, written into the shadow (R91). -/
def shadowRequest (s : State) (t : Fin 16) (bytes : List (Nat × Byte)) : State :=
  s.setTicket t { s.ticket t with shadow := writeBytes (s.ticket t).shadow bytes }

/-- A request-half run: into the shadow, and a closing write if it strobes byte 0 (R21, R91, R92). -/
def requestRun (s : State) (t : Fin 16) (bytes : List (Nat × Byte)) : State :=
  if bytes.any (fun ab => decide (ab.1 = 0)) then closeTicket (shadowRequest s t bytes) t
  else shadowRequest s t bytes

end Sys2Proof.Machine
end

