-- ==== Sys2Proof/Machine/Path.lean ====
section
/-! DEFINITION. The Path Interface: forwarding, runs, and substitution (Chapter 2). -/

namespace Sys2Proof.Machine

/-! ### Runs (R19) -/

/-- The runs of one observation handed on in ascending address order, each classified by the state the run before it left
(R19). `bytes` are (address, byte) pairs; `fuel` bounds the number of runs and is their count. -/
def handRuns (take : Area → List (Nat × Byte) → State → State) : Nat → List (Nat × Byte) → State → State
  | 0, _, s => s
  | _, [], s => s
  | fuel + 1, ab :: rest, s =>
    let area := s.areaAt ab.1
    let same := fun cd : Nat × Byte => decide (s.areaAt cd.1 = area)
    handRuns take fuel (rest.dropWhile same) (take area (ab :: rest.takeWhile same) s)

/-- The lowest address of a run. -/
def runLow (run : List (Nat × Byte)) : Nat := (run.head?.map Prod.fst).getD 0

/-- One above the highest address of a run. -/
def runEnd (run : List (Nat × Byte)) : Nat := (run.getLast?.map (fun ab => ab.1 + 1)).getD 0

/-- A run's bytes with their addresses counted from the start of their unit. -/
def runFrom (start : Nat) (run : List (Nat × Byte)) : List (Nat × Byte) := run.map (fun ab => (ab.1 - start, ab.2))

/-- A run of a write taken by its owner (R21, R24); `fills` says that the write's tag matched the fill match. -/
def takeWriteRun (fills : Bool) (area : Area) (run : List (Nat × Byte)) (s : State) : State :=
  match area with
  | .control p => controlRun s p (runFrom s.pageStart run)
  | .request t => requestRun s t (runFrom (s.pageStart + 0xC00 + 64 * t.val) run)
  | .window n =>
    if fills then fillObservation s n (runLow run - (s.slot n).base) (runEnd run - (s.slot n).base) else s
  | .verdict _ | .report | .plain | .outside => s

/-- A run of a read response taken by its owner (R25); `drains` says that its tag matched the drain match. -/
def takeReadRun (drains : Bool) (area : Area) (run : List (Nat × Byte)) (s : State) : State :=
  match area with
  | .window n => if drains then drainObservation s n (runEnd run - (s.slot n).base) else s
  | .control _ | .request _ | .verdict _ | .report | .plain | .outside => s

/-! ### Writes (R17, R18, R21, R28) -/

/-- A write forwarded downstream unchanged, its response status returned unchanged (R17, R28). -/
def forwardWrite (s : State) (w : BusWrite) : State := { s with ports := { s.ports with write := some w } }

/-- A write observed: its runs handed on in ascending address order (R18, R19). -/
def observeWrite (s : State) (w : BusWrite) : State :=
  handRuns (takeWriteRun (s.fillMatches w.tag)) (strobedBytes w).length (strobedBytes w) s

/-- A write on the memory path: forwarded always, observed while RST is released (R17, R32). -/
def writeTransaction (s : State) (w : BusWrite) : State :=
  whenReleased (forwardWrite s w) (fun s' => observeWrite s' w)

/-! ### Read responses (R17, R25, R27, R29 to R32) -/

/-- A byte address lies in the report's header line (R29). -/
def State.inHeaderLine (s : State) (a : Nat) : Bool :=
  s.inPage a && decide (0x400 ≤ a % 4096) && decide (a % 4096 < 0x440)

/-- The byte a read response carries at an address: substituted in the report area and in verdict halves, the DRAM
controller's elsewhere (R29 to R31). -/
def substitutedByte (s : State) (a : Nat) (dram : Byte) : Byte :=
  match s.areaAt a with
  | .report => s.reportByte (a % 4096)
  | .verdict t => verdictByte (s.ticket t).verdict (a % 64)
  | .control _ | .request _ | .plain | .window _ | .outside => dram

/-- A read response returned to the requester with these data bytes; address, tag and status are unchanged (R17). -/
def returnRead (s : State) (r : ReadResponse) (data : List Byte) : State :=
  { s with ports := { s.ports with read := some { addr := r.addr, tag := r.tag, data := data, status := r.status } } }

/-- A read of the header line takes its snapshot first (R29, R153). -/
def snapshotIfHeader (s : State) (bytes : List (Nat × Byte)) : State :=
  if bytes.any (fun ab => s.inHeaderLine ab.1) then takeSnapshot s else s

/-- What the part takes from a read response with status OK: a snapshot if it touches the header line, and its drain runs. -/
def observeRead (s : State) (r : ReadResponse) : State :=
  let bytes := addressed r.addr.toNat r.data
  handRuns (takeReadRun (s.drainMatches r.tag)) bytes.length bytes (snapshotIfHeader s bytes)

/-- The data of a read response with status OK as the requester gets them (R29 to R31). -/
def substitutedData (s : State) (r : ReadResponse) : List Byte :=
  (addressed r.addr.toNat r.data).map (fun ab => substitutedByte s ab.1 ab.2)

/-- A read response taken with RST released. One with status ERROR, or with a beat received during reset, is returned with the
DRAM controller's data and forms no run (R27, R32). -/
def readReleased (s : State) (r : ReadResponse) : State :=
  if r.status = .error ∨ r.spansReset = true then returnRead s r r.data
  else
    let observed := observeRead s r
    returnRead observed r (substitutedData observed r)

/-- A read response on the memory path; while RST is asserted it is returned as it came (R32). -/
def readTransaction (s : State) (r : ReadResponse) : State :=
  if s.pif.resetAsserted then returnRead s r r.data else readReleased (takeDueExpiries s) r

end Sys2Proof.Machine
end

