-- ==== Sys2Proof/Machine/PathCommands.lean ====
section
/-! DEFINITION. The commands that are transactions of the memory path. Each carries the whole transaction, and the part takes
it as R17 to R31 lay down: where its bytes fall, and what the shadows then hold, decide what it does (notes/assumptions/1.md). -/

namespace Sys2Proof.Machine

/-- FILL_WRITE (R38, by R24 and R26). -/
def execFillWrite (w : BusWrite) (s : State) : Host.Outcome State Fault Refusal := .next (writeTransaction s w)

/-- DRAIN_READ (R46, R47, by R25 and R26). -/
def execDrainRead (r : ReadResponse) (s : State) : Host.Outcome State Fault Refusal := .next (readTransaction s r)

/-- HEADER_LINE_READ (R153, R29). -/
def execHeaderLineRead (r : ReadResponse) (s : State) : Host.Outcome State Fault Refusal := .next (readTransaction s r)

/-- SETUP (R138, by R133 and R135). -/
def execSetup (w : BusWrite) (s : State) : Host.Outcome State Fault Refusal := .next (writeTransaction s w)

/-- LADDER (R81 to R83, by R133 and R135). -/
def execLadder (w : BusWrite) (s : State) : Host.Outcome State Fault Refusal := .next (writeTransaction s w)

/-- WINDOWS (R141, by R133 and R135). -/
def execWindows (w : BusWrite) (s : State) : Host.Outcome State Fault Refusal := .next (writeTransaction s w)

/-- DIRECTIVE (R142, by R133 and R135). -/
def execDirective (w : BusWrite) (s : State) : Host.Outcome State Fault Refusal := .next (writeTransaction s w)

/-- REQUEST_HALF_WRITE (R91). -/
def execRequestHalfWrite (w : BusWrite) (s : State) : Host.Outcome State Fault Refusal := .next (writeTransaction s w)

/-- ENTRY_CLEAR (R92). -/
def execEntryClear (w : BusWrite) (s : State) : Host.Outcome State Fault Refusal := .next (writeTransaction s w)

/-- FETCH (R97, by R92 and R93). -/
def execFetch (w : BusWrite) (s : State) : Host.Outcome State Fault Refusal := .next (writeTransaction s w)

/-- LENGTH (R108, by R92 and R93). -/
def execLength (w : BusWrite) (s : State) : Host.Outcome State Fault Refusal := .next (writeTransaction s w)

/-- DROP (R109, by R92 and R93). -/
def execDrop (w : BusWrite) (s : State) : Host.Outcome State Fault Refusal := .next (writeTransaction s w)

/-- REPLACE (R110, by R92 and R93). -/
def execReplace (w : BusWrite) (s : State) : Host.Outcome State Fault Refusal := .next (writeTransaction s w)

/-- UNKNOWN_KIND (R93, by R92). -/
def execUnknownKind (w : BusWrite) (s : State) : Host.Outcome State Fault Refusal := .next (writeTransaction s w)

/-- PLAIN_WRITE (R21). -/
def execPlainWrite (w : BusWrite) (s : State) : Host.Outcome State Fault Refusal := .next (writeTransaction s w)

/-- CLOSING_WRITE_SAME_STAMP (R92). -/
def execClosingWriteSameStamp (w : BusWrite) (s : State) : Host.Outcome State Fault Refusal := .next (writeTransaction s w)

end Sys2Proof.Machine
end

