-- ==== Sys2Proof/Machine/ResetCommands.lean ====
section
/-! DEFINITION. The commands of reset and of the time base: HARDWARE_RESET, RST_RELEASE, TICK, REFCLK_PERIOD. -/

namespace Sys2Proof.Machine

/-- The part under an assertion of RST: every block at its hardware reset values; what the ports last carried, the count of
used free values and the queue of waiting commands are not the part's to reset (R32). -/
def assertReset (s : State) : State :=
  { State.reset with ports := s.ports, freeCount := s.freeCount, pending := s.pending }

/-- The part at the release of RST: tie-offs sampled, then the snapshot of the reset values (R20, R32, R33, R145, R153). -/
def releaseReset (s : State) (pageBase : BitVec 28) (prescaler : BitVec 16) (revision : Byte) : State :=
  takeSnapshot
    { s with
      pif := { resetAsserted := false, pageBase := pageBase }
      tb := { s.tb with prescaler := prescaler.toNat }
      eru := { s.eru with revision := revision } }

/-- HARDWARE_RESET (R32). -/
def execHardwareReset (s : State) : Host.Outcome State Fault Refusal := .next (assertReset s)

/-- RST_RELEASE (R32); with RST released already there is nothing to release. -/
def execRstRelease (pageBase : BitVec 28) (prescaler : BitVec 16) (revision : Byte) (s : State) :
    Host.Outcome State Fault Refusal :=
  .next (if s.pif.resetAsserted then releaseReset s pageBase prescaler revision else s)

/-- TICK (R33): the REFCLK periods that remain to the next tick, and that tick (notes/assumptions/4.md). -/
def execTick (s : State) : Host.Outcome State Fault Refusal := .next (whenReleased s tickTime)

/-- REFCLK_PERIOD (R33). -/
def execRefclkPeriod (s : State) : Host.Outcome State Fault Refusal := .next (whenReleased s refclkTime)

end Sys2Proof.Machine
end

