-- ==== Sys2Proof/Machine/Dispatch.lean ====
section
/-! DEFINITION. Every command's meaning, one arm each. -/

namespace Sys2Proof.Machine

def exec (i : Instr) (s : State) : Host.Outcome State Fault Refusal :=
  match i with
  | .hardwareReset => Sys2Proof.Machine.execHardwareReset s
  | .rstRelease pageBase prescaler revision => Sys2Proof.Machine.execRstRelease pageBase prescaler revision s
  | .tick => Sys2Proof.Machine.execTick s
  | .fillWrite w => Sys2Proof.Machine.execFillWrite w s
  | .drainRead r => Sys2Proof.Machine.execDrainRead r s
  | .headerLineRead r => Sys2Proof.Machine.execHeaderLineRead r s
  | .setup w => Sys2Proof.Machine.execSetup w s
  | .ladder w => Sys2Proof.Machine.execLadder w s
  | .windows w => Sys2Proof.Machine.execWindows w s
  | .directive w => Sys2Proof.Machine.execDirective w s
  | .arm entry => Sys2Proof.Machine.execArm entry s
  | .suspend entry => Sys2Proof.Machine.execSuspend entry s
  | .resume entry => Sys2Proof.Machine.execResume entry s
  | .flush => Sys2Proof.Machine.execFlush s
  | .teardown entry => Sys2Proof.Machine.execTeardown entry s
  | .restart => Sys2Proof.Machine.execRestart s
  | .seed rate => Sys2Proof.Machine.execSeed rate s
  | .clearTallies => Sys2Proof.Machine.execClearTallies s
  | .ack mask => Sys2Proof.Machine.execAck mask s
  | .enable mask => Sys2Proof.Machine.execEnable mask s
  | .unknownDirective code entry => Sys2Proof.Machine.execUnknownDirective code entry s
  | .requestHalfWrite w => Sys2Proof.Machine.execRequestHalfWrite w s
  | .entryClear w => Sys2Proof.Machine.execEntryClear w s
  | .fetch w => Sys2Proof.Machine.execFetch w s
  | .length w => Sys2Proof.Machine.execLength w s
  | .drop w => Sys2Proof.Machine.execDrop w s
  | .replace w => Sys2Proof.Machine.execReplace w s
  | .unknownKind w => Sys2Proof.Machine.execUnknownKind w s
  | .plainWrite w => Sys2Proof.Machine.execPlainWrite w s
  | .settleExpiry p => Sys2Proof.Machine.execSettleExpiry p s
  | .stallExpiry n => Sys2Proof.Machine.execStallExpiry n s
  | .checkExpiry n => Sys2Proof.Machine.execCheckExpiry n s
  | .graceExpiry n => Sys2Proof.Machine.execGraceExpiry n s
  | .closingWriteSameStamp w => Sys2Proof.Machine.execClosingWriteSameStamp w s
  | .refclkPeriod => Sys2Proof.Machine.execRefclkPeriod s

end Sys2Proof.Machine
end

