-- ==== Sys2Proof/Safety.lean ====
section
/-! DEFINITION. The terms in which statements about the part are made: when it takes an event, which transaction a command
carries and where it falls, and the laws that every step keeps. -/

namespace Sys2Proof.Machine

/-! ### When an event is taken, and what it carries -/

/-- RST is released and no expiry is due: the next command is taken as it comes, with nothing before it (R32, R34). -/
def State.takesEvents (s : State) : Bool := !s.pif.resetAsserted && s.noneDue

/-- The write transaction of a command that is one. -/
def writeOf : Instr → Option BusWrite
  | .fillWrite w | .setup w | .ladder w | .windows w | .directive w | .requestHalfWrite w | .entryClear w | .fetch w
  | .length w | .drop w | .replace w | .unknownKind w | .plainWrite w | .closingWriteSameStamp w => some w
  | .hardwareReset | .rstRelease _ _ _ | .tick | .drainRead _ | .headerLineRead _ | .arm _ | .suspend _ | .resume _
  | .flush | .teardown _ | .restart | .seed _ | .clearTallies | .ack _ | .enable _ | .unknownDirective _ _
  | .settleExpiry _ | .stallExpiry _ | .checkExpiry _ | .graceExpiry _ | .refclkPeriod => none

/-- The read response of a command that is one. -/
def readOf : Instr → Option ReadResponse
  | .drainRead r | .headerLineRead r => some r
  | .fillWrite _ | .setup _ | .ladder _ | .windows _ | .directive _ | .requestHalfWrite _ | .entryClear _ | .fetch _
  | .length _ | .drop _ | .replace _ | .unknownKind _ | .plainWrite _ | .closingWriteSameStamp _
  | .hardwareReset | .rstRelease _ _ _ | .tick | .arm _ | .suspend _ | .resume _ | .flush | .teardown _ | .restart
  | .seed _ | .clearTallies | .ack _ | .enable _ | .unknownDirective _ _ | .settleExpiry _ | .stallExpiry _
  | .checkExpiry _ | .graceExpiry _ | .refclkPeriod => none

/-- The command is an expiry step. -/
def isExpiry : Instr → Bool
  | .settleExpiry _ | .stallExpiry _ | .checkExpiry _ | .graceExpiry _ => true
  | .fillWrite _ | .setup _ | .ladder _ | .windows _ | .directive _ | .requestHalfWrite _ | .entryClear _ | .fetch _
  | .length _ | .drop _ | .replace _ | .unknownKind _ | .plainWrite _ | .closingWriteSameStamp _
  | .hardwareReset | .rstRelease _ _ _ | .tick | .drainRead _ | .headerLineRead _ | .arm _ | .suspend _ | .resume _
  | .flush | .teardown _ | .restart | .seed _ | .clearTallies | .ack _ | .enable _ | .unknownDirective _ _
  | .refclkPeriod => false

/-- The command is one of the two edges of RST. -/
def isReset : Instr → Bool
  | .hardwareReset | .rstRelease _ _ _ => true
  | .fillWrite _ | .setup _ | .ladder _ | .windows _ | .directive _ | .requestHalfWrite _ | .entryClear _ | .fetch _
  | .length _ | .drop _ | .replace _ | .unknownKind _ | .plainWrite _ | .closingWriteSameStamp _
  | .tick | .drainRead _ | .headerLineRead _ | .arm _ | .suspend _ | .resume _ | .flush | .teardown _ | .restart
  | .seed _ | .clearTallies | .ack _ | .enable _ | .unknownDirective _ _ | .settleExpiry _ | .stallExpiry _
  | .checkExpiry _ | .graceExpiry _ | .refclkPeriod => false

/-- There are bytes, and every one of them falls in one area. -/
def State.allFallIn (s : State) (bytes : List (Nat × Byte)) (area : Area) : Bool :=
  !bytes.isEmpty && bytes.all (fun ab => decide (s.areaAt ab.1 = area))

/-- A write all of whose strobed bytes fall in one area, taken with nothing before it. -/
def State.writeFallsIn (s : State) (w : BusWrite) (area : Area) : Bool :=
  s.takesEvents && s.allFallIn (strobedBytes w) area

/-- A read response with status OK, all of whose bytes fall in one area, taken with nothing before it. -/
def State.readFallsIn (s : State) (r : ReadResponse) (area : Area) : Bool :=
  s.takesEvents && decide (r.status = .ok) && !r.spansReset && s.allFallIn (addressed r.addr.toNat r.data) area

/-- The capture shadow once a write to the control area is in it (R133). -/
def State.shadowAfter (s : State) (w : BusWrite) : ByteStore :=
  writeBytes s.ccu.shadow (runFrom s.pageStart (strobedBytes w))

/-- The bytes of a write to ticket `t`'s request half, at their offsets in the half. -/
def State.halfBytes (s : State) (t : Fin 16) (w : BusWrite) : List (Nat × Byte) :=
  runFrom (s.pageStart + 0xC00 + 64 * t.val) (strobedBytes w)

/-- The request shadow of ticket `t` once a write to its request half is in it (R91). -/
def State.requestAfter (s : State) (t : Fin 16) (w : BusWrite) : ByteStore :=
  writeBytes (s.ticket t).shadow (s.halfBytes t w)

/-- A closing write on ticket `t`: it falls in the ticket's request half and strobes its byte 0 (R92). -/
def State.closes (s : State) (t : Fin 16) (w : BusWrite) : Bool :=
  s.writeFallsIn w (.request t) && (s.halfBytes t w).any (fun ab => decide (ab.1 = 0))

/-- A closing write whose stamp is new, so that its request is taken (R92). -/
def State.brings (s : State) (t : Fin 16) (w : BusWrite) (q : Request) : Bool :=
  s.closes t w && decide (readRequest (s.requestAfter t w) = q) && decide (q.stamp ≠ 0)
    && decide (q.stamp ≠ (s.ticket t).stamp)

/-- The command that is a write to a record position. -/
def recordWrite : Position → BusWrite → Instr
  | .setup, w => .setup w
  | .ladder, w => .ladder w
  | .windows, w => .windows w
  | .directive, w => .directive w

/-- The stamp of the record that position `p` holds once a write to it is in the capture shadow (R131). -/
def State.stampAfter (s : State) (p : Position) (w : BusWrite) : Byte := readByte (s.shadowAfter w) (positionOffset p)

/-- A write to position `p` that leaves a whole record under a new stamp: the shape and INUSE tests are next (R135). -/
def State.presents (s : State) (p : Position) (w : BusWrite) : Bool :=
  s.writeFallsIn w (.control p) && checkMatches (s.shadowAfter w) p && decide (s.stampAfter p w ≠ 0)
    && decide (s.stampAfter p w ≠ (s.position p).adoptedStamp) && decide (s.stampAfter p w ≠ (s.position p).rejectedStamp)

/-- The command that a directive entry stands for. -/
def directiveCommand (code : Byte) (argument : BitVec 32) (entry : Fin 6) : Instr :=
  if code = 1 then .arm entry
  else if code = 2 then .suspend entry
  else if code = 3 then .resume entry
  else if code = 4 then .flush
  else if code = 5 then .teardown entry
  else if code = 6 then .restart
  else if code = 7 then .seed argument
  else if code = 8 then .clearTallies
  else if code = 9 then .ack argument
  else if code = 10 then .enable argument
  else .unknownDirective code entry

/-- The commands that a directive list stands for, from entry index `i` on: it ends at code 0 and after a RESTART (R12, R142). -/
def listCommands (i : Nat) : List (Byte × BitVec 32) → List Instr
  | [] => []
  | (code, argument) :: rest =>
    if code = 0 then []
    else directiveCommand code argument (Fin.ofNat 6 i) :: (if code = 6 then [] else listCommands (i + 1) rest)

/-- WARMUP or ADAPTING: the states in which fetches are decided (R98). -/
def Governor.decides : Governor → Bool
  | .warmup | .adapting => true
  | .dormant | .ready | .suspended => false

/-- The armed states (section 1.1). -/
def Governor.armed : Governor → Bool
  | .warmup | .adapting | .suspended => true
  | .dormant | .ready => false

/-! ### The laws that every step keeps -/

/-- The byte buffers are canonical and inside their areas, and the snapshot has its 1,024 bytes (R89, R131, R145). -/
structure BuffersCanonical (s : State) : Prop where
  capture : ByteStore.wf s.ccu.shadow = true
  captureSize : ByteStore.within s.ccu.shadow 0x280 = true
  request : ∀ t : Fin 16, ByteStore.wf (s.ticket t).shadow = true
  requestSize : ∀ t : Fin 16, ByteStore.within (s.ticket t).shadow 32 = true
  snapshot : s.eru.snapshot.length = 1024

/-- An adopted SETUP has every field in its range (R1, R61, R64, R68, R69, R73, R76, R96, R114). -/
structure SettingsInRange (u : Setup) : Prop where
  mode : u.mode ≤ 1
  pinnedRung : u.pinnedRung ≤ 11
  startRung : u.startRung ≤ 11
  capRung : u.capRung ≤ 11
  shiftFast : 1 ≤ u.shiftFast ∧ u.shiftFast ≤ 4
  shiftSlow : 2 ≤ u.shiftSlow ∧ u.shiftSlow ≤ 7 ∧ u.shiftFast + 1 ≤ u.shiftSlow
  dwellMin : u.dwellMin ≤ 15
  warmupLength : u.warmupLength ≤ 8
  abandonEnable : u.abandonEnable ≤ 1
  sigma : 64 ≤ u.sigma ∧ u.sigma ≤ 256
  sigmaCongested : 64 ≤ u.sigmaCongested ∧ u.sigmaCongested ≤ u.sigma
  rhoIn : 64 ≤ u.rhoIn ∧ u.rhoIn ≤ 250
  rhoOut : u.rhoIn + 6 ≤ u.rhoOut ∧ u.rhoOut ≤ 256
  gapLimit : 1 ≤ u.gapLimit ∧ u.gapLimit ≤ 2000
  stallTime : 50 ≤ u.stallTime ∧ u.stallTime ≤ 10000
  checkTime : 50 ≤ u.checkTime ∧ u.checkTime ≤ 5000
  guard : u.guard ≤ 30000
  graceTime : 100 ≤ u.graceTime ∧ u.graceTime ≤ 10000
  seed : u.seed ≤ 1048575
  minSample : u.minSample ≤ 16777216
  bPanic : u.bPanic ≤ 120000
  bUp : u.bPanic ≤ u.bUp ∧ u.bUp ≤ 120000
  bTarget : u.bTarget ≤ 120000
  bFull : u.bTarget + 10 ≤ u.bFull ∧ u.bFull ≤ 120010

/-- An adopted ladder has 1..12 rungs whose nominal rates are at least 64 and strictly rise (R79, R81). -/
structure LadderLegal (l : Ladder) : Prop where
  count : 1 ≤ rungCount l ∧ rungCount l ≤ 12
  lowest : ∀ r ∈ l.rungs, 64 ≤ r.nominal ∧ r.nominal ≤ 65535 ∧ -128 ≤ r.trim ∧ r.trim ≤ 127
  rising : l.rungs.Pairwise (fun a b => a.nominal < b.nominal)

/-- Every tally is a count of at most 2^32 − 1 (R145, R150). -/
structure TalliesInRange (t : Tallies) : Prop where
  landed : t.landed ≤ tallyTop
  gated : t.gated ≤ tallyTop
  underruns : t.underruns ≤ tallyTop
  stalls : t.stalls ≤ tallyTop
  advices : t.advices ≤ tallyTop
  unheeded : t.unheeded ≤ tallyTop
  upSwitches : t.upSwitches ≤ tallyTop
  downSwitches : t.downSwitches ≤ tallyTop
  holds : t.holds ≤ tallyTop
  rejections : t.rejections ≤ tallyTop
  refusals : t.refusals ≤ tallyTop
  dwellTime : ∀ k : Fin 12, t.dwellTime[k] ≤ tallyTop

/-- The session state, the configuration, the estimates and the counts are as Chapters 1, 4, 8 and 9 bound them. -/
structure SessionLegal (s : State) : Prop where
  /-- the remembered state is present exactly while SUSPENDED (R1) -/
  remembered : s.sc.remembered.isSome = true ↔ s.sc.governor = .suspended
  /-- the warmup count is 0..255 (R1) -/
  warmupCount : s.sc.warmupCount ≤ 255
  /-- in WARMUP fewer than W samples have passed since ARM (R1) -/
  warmup : s.sc.governor = .warmup → s.sc.warmupCount < s.setup.warmupLength
  /-- out of DORMANT all three records are adopted (R1, R3) -/
  configured : s.sc.governor ≠ .dormant → s.configured = true
  /-- slots are live in the armed states alone (R13) -/
  armed : ∀ n : Fin 8, (s.slot n).state.live = true → s.sc.governor.armed = true
  /-- a record's content is present exactly while its position has an adopted stamp (R131) -/
  setupStamp : s.ccu.posSetup.adoptedStamp ≠ 0 ↔ s.ccu.adoptedSetup.isSome = true
  ladderStamp : s.ccu.posLadder.adoptedStamp ≠ 0 ↔ s.ccu.adoptedLadder.isSome = true
  windowsStamp : s.ccu.posWindows.adoptedStamp ≠ 0 ↔ s.ccu.adoptedWindows.isSome = true
  /-- the SETUP and DIRECTIVE positions hold no rejected stamp (R131) -/
  noRejected : s.ccu.posSetup.rejectedStamp = 0 ∧ s.ccu.posDirective.rejectedStamp = 0
  /-- a settle timer runs exactly while its position is pending (R131, R136) -/
  settling : ∀ p : Position, (s.position p).settle.isSome = (s.position p).pending
  /-- the adoption counter is 0..63, and 0 exactly when nothing has been adopted (R139) -/
  counter : s.ccu.counter ≤ 63
  counterZero : s.ccu.counter = 0 ↔ ∀ p : Position, (s.position p).adoptedStamp = 0
  settings : ∀ u, s.ccu.adoptedSetup = some u → SettingsInRange u
  ladder : ∀ l, s.ccu.adoptedLadder = some l → LadderLegal l
  /-- each estimate lies in 0..1,048,575 (R59, R67) -/
  fast : s.te.fast ≤ rateTop
  slow : s.te.slow ≤ rateTop
  /-- the ring holds at most 8 samples, each with a rate in range (R59, R65) -/
  ring : s.te.ring.length ≤ 8
  rates : ∀ x ∈ s.te.ring, x.rate ≤ rateTop
  /-- the current rung is 0..11 and the dwell count 0..255 (R89) -/
  currentRung : s.vu.currentRung ≤ 11
  dwell : s.vu.dwell ≤ 255
  tallies : TalliesInRange s.eru.tallies

/-- One slot and its timers are as Chapters 3 and 7 bound them. -/
structure SlotLegal (x : Slot) (t : SlotTimers) : Prop where
  /-- a FREE slot is an empty record with its timers stopped (R35, R54) -/
  free : x.state = .free → x = Slot.empty ∧ t = SlotTimers.stopped
  /-- a live slot has a duration of 1..20,000 and a window (R35) -/
  live : x.state.live = true → 1 ≤ x.duration ∧ x.duration ≤ 20000 ∧ 1 ≤ x.capacity
  /-- drain mark ≤ fill mark ≤ capacity (R38) -/
  marks : x.drainMark ≤ x.fillMark ∧ x.fillMark ≤ x.capacity
  /-- fill mark ≤ a present length ≤ capacity (R35, R38) -/
  length : ∀ len, x.length = some len → 1 ≤ len ∧ len ≤ x.capacity ∧ x.fillMark ≤ len
  /-- a slot whose fill mark has reached its length has landed (R40) -/
  unlanded : x.state.unlanded = true → x.length ≠ some x.fillMark
  /-- an ISSUED slot has counted no fill write (R38) -/
  issued : x.state = .issued → x.fillMark = 0 ∧ x.lastFill = none
  /-- a landed slot is filled to its length, with its timers stopped (R40, R44) -/
  landed : x.state.hasLanded = true → x.length = some x.fillMark ∧ t = SlotTimers.stopped ∧ x.stalled = false
  /-- a LANDED slot is undrained, a DRAINING slot partly drained (R45, R47, R48) -/
  landedDrain : x.state = .landed → x.drainMark = 0
  draining : x.state = .draining → 1 ≤ x.drainMark ∧ x.drainMark < x.fillMark
  /-- an advised replacement rung is present exactly while ADVISED (R44, R53) -/
  advised : x.advisedRung.isSome = true ↔ x.state = .advised
  /-- the check timer runs exactly while FILLING (R116) -/
  checkTimer : t.check.isSome = true ↔ x.state = .filling
  /-- the grace timer runs only while ADVISED (R126) -/
  graceTimer : t.grace.isSome = true → x.state = .advised

/-- The slot table and the playout queue are as Chapter 3 lays down. -/
structure SlotTableLegal (s : State) : Prop where
  slot : ∀ n : Fin 8, SlotLegal (s.slot n) (s.timers n)
  /-- no two live slots hold the same segment (R37) -/
  segments : ∀ m n : Fin 8, (s.slot m).state.live = true → (s.slot n).state.live = true →
    (s.slot m).segment = (s.slot n).segment → m = n
  /-- the windows of live slots never overlap (R37) -/
  windows : ∀ m n : Fin 8, (s.slot m).state.live = true → (s.slot n).state.live = true → m ≠ n →
    windowsShare (s.slot m).base (s.slot m).capacity (s.slot n).base (s.slot n).capacity = false
  /-- the queue holds exactly the landed slots (R51) -/
  queue : ∀ n : Fin 8, n ∈ s.stu.queue ↔ (s.slot n).state.hasLanded = true
  /-- in strictly ascending segment number (R51) -/
  sorted : s.stu.queue.Pairwise (fun m n => (s.slot m).segment < (s.slot n).segment)

/-- Live slots agree with the configuration in force: windows inside the bounds and outside the governor page (R37, R99, R141),
rungs and expected bytes those of the ladder (R82, R85). -/
structure SlotsAgree (s : State) : Prop where
  /-- under an asserted RST nothing is adopted and no slot is live (R32, R36, R132) -/
  reset : s.pif.resetAsserted = true → s.ccu.adoptedWindows = none ∧ s.anyLive = false
  bounds : ∀ w, s.ccu.adoptedWindows = some w → boundsShape s.pageStart w.low w.high = true
  inside : ∀ n : Fin 8, (s.slot n).state.live = true →
    ∃ w, s.ccu.adoptedWindows = some w ∧ w.low ≤ (s.slot n).base ∧ (s.slot n).base + (s.slot n).capacity ≤ w.high
      ∧ (s.slot n).capacity ≤ w.maxCapacity
  onLadder : ∀ n : Fin 8, (s.slot n).state.live = true →
    (s.slot n).rung < rungCount s.ladder
      ∧ (s.slot n).expected = expectedBytes s.ladder (s.slot n).rung (s.slot n).duration
  /-- the advised replacement rung lies below the slot's rung (R84, R87) -/
  advisedBelow : ∀ (n : Fin 8) (k : Nat), (s.slot n).advisedRung = some k → k < (s.slot n).rung

end Sys2Proof.Machine
end

