-- ==== Sys2Proof/WellFormed.lean ====
section
/-! DEFINITION. Which commands can stand on the part's ports at all: the limits of R18 on a transaction's length,
of section 0.6 on its addresses, and of R142 on the code of an unknown directive. No meaning leans on them: every meaning
is total, and these checks only say which terms name something a bus or a record can carry. -/

namespace Sys2Proof

/-- A transaction covers 1..256 consecutive byte positions (R18). -/
def lengthFits (n : Nat) : Bool := decide (1 ≤ n) && decide (n ≤ 256)

/-- Every byte of a transaction has a 40-bit address (section 0.6). -/
def endFits (addr : Addr) (n : Nat) : Bool := decide (addr.toNat + n ≤ 2 ^ 40)

/-- A write transaction that the upstream port can carry. -/
def BusWrite.wellFormed (w : BusWrite) : Bool := lengthFits w.lanes.length && endFits w.addr w.lanes.length

/-- A read response that the downstream port can carry. -/
def ReadResponse.wellFormed (r : ReadResponse) : Bool := lengthFits r.data.length && endFits r.addr r.data.length

/-- The well-formed commands. -/
def Instr.wellFormed : Instr → Bool
  | .fillWrite w | .setup w | .ladder w | .windows w | .directive w | .requestHalfWrite w | .entryClear w
  | .fetch w | .length w | .drop w | .replace w | .unknownKind w | .plainWrite w
  | .closingWriteSameStamp w => w.wellFormed
  | .drainRead r | .headerLineRead r => r.wellFormed
  | .unknownDirective code _ => decide (11 ≤ code.toNat)
  | .hardwareReset | .rstRelease _ _ _ | .tick | .arm _ | .suspend _ | .resume _ | .flush | .teardown _
  | .restart | .seed _ | .clearTallies | .ack _ | .enable _ | .settleExpiry _ | .stallExpiry _ | .checkExpiry _
  | .graceExpiry _ | .refclkPeriod => true

end Sys2Proof
end

