-- ==== Sys2Proof/Certificates/Slice0/Obligations.lean ====
section
/-! DEFINITION. The statements made about the part. Where one gives a next state as a record update, every field that it does not
name is unchanged: that is its frame. The free values of Config stand in these statements as they are: each holds for any value. -/

open Sys2Proof Sys2Proof.Machine

/-! ### The queue and RST -/

/-- A step takes the command at the front of the queue and runs it on the state with the rest; an empty queue idles
(the block's form; notes/assumptions/10.md). -/
def Obligations.StepRunsTheFrontCommand : Prop :=
  (∀ (c : Instr) (q : List Instr) (s : State), s.pending = c :: q → step s = exec c { s with pending := q })
    ∧ ∀ s : State, s.pending = [] → step s = .next s

/-- Every command answers a next state: each step that spec/95 lists has an effect, and none ends in a stop. That a command leaves
the queue of waiting commands alone is the model's choice, since the queue is its own (DESIGN CHOICE, notes/assumptions/10.md). -/
def Obligations.CommandsCompleteAndKeepTheQueue : Prop :=
  ∀ (c : Instr) (s : State), ∃ t, exec c s = .next t ∧ t.pending = s.pending

/-- While RST is asserted (R32) writes are forwarded and reads returned with the DRAM controller's data, and nothing else happens:
no observation, no substitution, no time, no directive, no expiry. -/
def Obligations.AssertedResetObservesNothing : Prop :=
  ∀ (c : Instr) (s : State), s.pif.resetAsserted = true →
    (∀ w, writeOf c = some w → exec c s = .next { s with ports := { s.ports with write := some w } })
    ∧ (∀ r, readOf c = some r →
        exec c s = .next { s with ports := { s.ports with
          read := some { addr := r.addr, tag := r.tag, data := r.data, status := r.status } } })
    ∧ (writeOf c = none → readOf c = none → isReset c = false → exec c s = .next s)

/-- What HARDWARE_RESET and RESTART leave in every block (R2, R36, R132; R60, R90, R114, R145). RESTART alone keeps the page base,
the time base, the capture shadow and the revision, and takes a snapshot; the hardware reset's comes at RST_RELEASE,
which also samples the three tie-offs (R20, R32, R33, R145). The model's choices: a reset leaves the ports field as it was
(notes/assumptions/11.md), a HARDWARE_RESET over an asserted RST resets again (18.md), and a RESTART clears the flags and tallies
of earlier expiries with all the others (23.md). -/
def Obligations.ResetsSetEveryBlock : Prop :=
  let blocksReset : State → Prop := fun t =>
    t.sc = { governor := .dormant, remembered := none, warmupCount := 0 }
      ∧ (∀ n : Fin 8, t.slot n = Slot.empty ∧ t.timers n = SlotTimers.stopped) ∧ t.stu.queue = [] ∧ t.bufferLevel = 0
      ∧ (∀ p : Position, t.position p = { adoptedStamp := 0, rejectedStamp := 0, pending := false, settle := none })
      ∧ t.ccu.adoptedSetup = none ∧ t.ccu.adoptedLadder = none ∧ t.ccu.adoptedWindows = none ∧ t.ccu.counter = 0
      ∧ t.ccu.rejectionNote = none ∧ t.ccu.clampNote = none ∧ t.ccu.directiveNote = none
      ∧ t.te = { ring := [], fast := 0, slow := 0, congestion := .clear, valid := false } ∧ safeRate t = 0
      ∧ (∀ k : Fin 16, t.ticket k = { stamp := 0, verdict := none, shadow := [] }) ∧ t.vu.currentRung = 0 ∧ t.vu.dwell = 0
      ∧ t.eru.flags = 0x100 ∧ t.eru.enables = 0 ∧ t.evt = false ∧ t.eru.tallies = Tallies.zero
  (∀ s : State, ∃ t, exec .hardwareReset s = .next t ∧ blocksReset t ∧ t.pif.resetAsserted = true ∧ t.ccu.shadow = []
      ∧ t.tb.count = 0 ∧ t.tb.partTime = 0 ∧ t.ports = s.ports)
    ∧ (∀ s : State, s.takesEvents = true → ∃ t, exec .restart s = .next t ∧ blocksReset t ∧ t.pif = s.pif ∧ t.tb = s.tb
      ∧ t.ccu.shadow = s.ccu.shadow ∧ t.eru.revision = s.eru.revision ∧ t.eru.snapshot = reportBytes t
      ∧ t.ports = s.ports)
    ∧ ∀ (pageBase : BitVec 28) (prescaler : BitVec 16) (revision : Byte) (s : State),
      s.pif.resetAsserted = true → lowerEstimate s = 0 →
      ∃ t, exec (.rstRelease pageBase prescaler revision) s = .next t
        ∧ t = { s with
            pif := { resetAsserted := false, pageBase := pageBase }
            tb := { s.tb with prescaler := prescaler.toNat }
            eru := { s.eru with revision := revision, snapshot := t.eru.snapshot } }
        ∧ t.eru.snapshot = reportBytes t

/-! ### Time and expiries -/

/-- TICK: the prescaler count returns to 0 and part time grows by 1 modulo 2^32; the silence of each unlanded slot is measured
against the new part time: at 2,000 ms it sets the mark longSilence, which the model has to hold R61's limit (DEDUCED,
notes/assumptions/14.md). REFCLK_PERIOD: below P the prescaler count grows by 1, at P the period is the tick. A TICK is exactly
the REFCLK periods that remain to it, one for each count from the present one up to P (R33; notes/assumptions/4.md). -/
def Obligations.RefclkPeriodsMakeTheTick : Prop :=
  ∀ s : State, s.takesEvents = true →
    (∃ t, exec .tick s = .next t
      ∧ t = { s with tb := { s.tb with count := 0, partTime := s.tb.partTime + 1 }, stu := t.stu }
      ∧ t.stu.queue = s.stu.queue
      ∧ ∀ n : Fin 8, t.slot n = { s.slot n with longSilence := (s.slot n).longSilence ||
          ((s.slot n).state.unlanded &&
            decide (2000 ≤ (s.tb.partTime + 1 - ((s.slot n).lastFill.getD (s.slot n).issueTick)).toNat)) })
    ∧ (s.tb.count < s.tb.prescaler →
      exec .refclkPeriod s = .next { s with tb := { s.tb with count := s.tb.count + 1 } })
    ∧ (s.tb.prescaler ≤ s.tb.count → exec .refclkPeriod s = exec .tick s)
    ∧ (s.tb.count ≤ s.tb.prescaler → s.pending = [] →
      Host.Core.run Sys2Proof.core (s.tb.prescaler + 1 - s.tb.count)
        { s with pending := List.replicate (s.tb.prescaler + 1 - s.tb.count) .refclkPeriod } = exec .tick s)

/-- An event taken after the expiring tick finds the timer expired (R34; the order of taking is notes/assumptions/3.md): with a
check time of at least 1 ms in any adopted SETUP (R114) and, before a SETUP is adopted, no check timer running, taking the due
expiries leaves none due, and every command but an expiry step or an edge of RST acts as on the state in which they have been
taken. An expiry step whose timer is stopped, or whose expiring tick has not come, does nothing. -/
def Obligations.EventsFindDueTimersExpired : Prop :=
  let checksEnd : State → Prop := fun s => (∀ u, s.ccu.adoptedSetup = some u → 1 ≤ u.checkTime)
    ∧ (s.ccu.adoptedSetup = none → ∀ n : Fin 8, (s.timers n).check = none)
  (∀ s : State, checksEnd s → (takeDueExpiries s).noneDue = true)
    ∧ (∀ (c : Instr) (s : State), isExpiry c = false → isReset c = false → s.pif.resetAsserted = false →
      checksEnd s → exec c s = exec c (takeDueExpiries s))
    ∧ ∀ (s : State) (n : Fin 8) (p : Position),
      (s.settleDue p = false → exec (.settleExpiry p) s = .next s)
      ∧ (s.stallDue n = false → exec (.stallExpiry n) s = .next s)
      ∧ (s.checkDue n = false → exec (.checkExpiry n) s = .next s)
      ∧ (s.graceDue n = false → exec (.graceExpiry n) s = .next s)

/-- SETTLE_EXPIRY of a pending position: rejected with reason CHECK, the rejected stamp left as it was (R136, R137). -/
def Obligations.SettleExpiryRejectsThePendingRecord : Prop :=
  ∀ (s : State) (p : Position), s.pif.resetAsserted = false → s.settleDue p = true → (s.position p).pending = true →
    ∃ t, exec (.settleExpiry p) s = .next t
      ∧ t.position p = { s.position p with pending := false, settle := none }
      ∧ (∀ q, q ≠ p → t.position q = s.position q)
      ∧ t.ccu.rejectionNote = some { position := p, reason := .check, stamp := readByte s.ccu.shadow (positionOffset p) }
      ∧ t.eru = { s.eru with
          flags := s.eru.flags ||| 0x040
          tallies := { s.eru.tallies with rejections := min (s.eru.tallies.rejections + 1) (2 ^ 32 - 1) } }
      ∧ t.ccu.shadow = s.ccu.shadow ∧ t.ccu.adoptedSetup = s.ccu.adoptedSetup ∧ t.ccu.adoptedLadder = s.ccu.adoptedLadder
      ∧ t.ccu.adoptedWindows = s.ccu.adoptedWindows ∧ t.ccu.counter = s.ccu.counter ∧ t.ccu.clampNote = s.ccu.clampNote
      ∧ t.ccu.directiveNote = s.ccu.directiveNote
      ∧ t = { s with ccu := t.ccu, eru := t.eru }

/-- STALL_EXPIRY: the slot is marked, STALL reported and the stall timer stopped; and where advice is permitted on an ISSUED or
FILLING slot, it is ADVISED without a lateness test, at the replacement rung of R123, with ADVISE reported and grace started
(R115, R119, R123 to R125). -/
def Obligations.StallExpiryMarksAndAdvises : Prop :=
  ∀ (s : State) (n : Fin 8), s.pif.resetAsserted = false → s.stallDue n = true →
    let x := s.slot n
    let permitted := s.sc.governor.decides = true ∧ s.setup.mode = 0 ∧ s.setup.abandonEnable = 1 ∧ 1 ≤ x.rung
      ∧ (x.state = .issued ∨ x.state = .filling)
    let y := x.fillMark * 8 / max 1 x.activeMs
    let rung := candidateBelow s.ladder (y * sigmaInForce s / 256) x.rung
    let grace : Timer := { start := s.tb.partTime, duration := s.setup.graceTime }
    let stalls := min (s.eru.tallies.stalls + 1) (2 ^ 32 - 1)
    (¬ permitted → exec (.stallExpiry n) s = .next { s with
      stu := { s.stu with slots := s.stu.slots.set n { x with stalled := true } }
      pm := { timers := s.pm.timers.set n { s.timers n with stall := none } }
      eru := { s.eru with flags := s.eru.flags ||| 0x008, tallies := { s.eru.tallies with stalls := stalls } } })
    ∧ (permitted → exec (.stallExpiry n) s = .next { s with
      stu := { s.stu with
        slots := s.stu.slots.set n { x with stalled := true, state := .advised, advisedRung := some rung } }
      pm := { timers := s.pm.timers.set n { stall := none, check := none, grace := some grace } }
      eru := { s.eru with
        flags := s.eru.flags ||| 0x008 ||| 0x001
        tallies := { s.eru.tallies with
          stalls := stalls, advices := min (s.eru.tallies.advices + 1) (2 ^ 32 - 1) } } })

/-- CHECK_EXPIRY on a FILLING slot (R116, R119 to R123). With r bytes remaining and y the rate so far, the fetch is late when r is
above 0 and y is 0 or ceil(8r ÷ y) exceeds B − guard. Late and permitted: advice. Otherwise the check timer is restarted. -/
def Obligations.CheckExpiryJudgesTheFetch : Prop :=
  ∀ (s : State) (n : Fin 8), s.pif.resetAsserted = false → s.checkDue n = true → (s.slot n).state = .filling →
    let x := s.slot n
    let y := x.fillMark * 8 / max 1 x.activeMs
    let r := x.length.getD x.expected - x.fillMark
    let late := 0 < r ∧ (y = 0 ∨ (s.bufferLevel : Int) - s.setup.guard < ⌈(8 * r : ℚ) / y⌉)
    let permitted := s.sc.governor.decides = true ∧ s.setup.mode = 0 ∧ s.setup.abandonEnable = 1 ∧ 1 ≤ x.rung
    let rung := candidateBelow s.ladder (y * sigmaInForce s / 256) x.rung
    let grace : Timer := { start := s.tb.partTime, duration := s.setup.graceTime }
    let again : Timer := { start := s.tb.partTime, duration := s.setup.checkTime }
    (late ∧ permitted → exec (.checkExpiry n) s = .next { s with
      stu := { s.stu with slots := s.stu.slots.set n { x with state := .advised, advisedRung := some rung } }
      pm := { timers := s.pm.timers.set n { s.timers n with check := none, grace := some grace } }
      eru := { s.eru with
        flags := s.eru.flags ||| 0x001
        tallies := { s.eru.tallies with advices := min (s.eru.tallies.advices + 1) (2 ^ 32 - 1) } } })
    ∧ (¬ (late ∧ permitted) → exec (.checkExpiry n) s = .next { s with
      pm := { timers := s.pm.timers.set n { s.timers n with check := some again } } })

/-- GRACE_EXPIRY: UNHEEDED is reported, the grace timer stops, and the slot stays as it was, in every governor state (R126). -/
def Obligations.GraceExpiryReportsUnheeded : Prop :=
  ∀ (s : State) (n : Fin 8), s.pif.resetAsserted = false → s.graceDue n = true →
    exec (.graceExpiry n) s = .next { s with
      pm := { timers := s.pm.timers.set n { s.timers n with grace := none } }
      eru := { s.eru with
        flags := s.eru.flags ||| 0x002
        tallies := { s.eru.tallies with unheeded := min (s.eru.tallies.unheeded + 1) (2 ^ 32 - 1) } } }

/-! ### Directives -/

/-- ARM in READY sets the session values (R6, R7). SUSPEND remembers the state it finds, and RESUME returns to it, going on from
WARMUP when the count has reached W (R8, R9). -/
def Obligations.SessionDirectivesMoveTheGovernor : Prop :=
  ∀ (s : State) (entry : Fin 6), s.takesEvents = true →
    (∀ (u : Setup) (l : Ladder), s.sc.governor = .ready → s.ccu.adoptedSetup = some u → s.ccu.adoptedLadder = some l →
      exec (.arm entry) s = .next { s with
        sc := { s.sc with governor := if u.warmupLength = 0 then .adapting else .warmup, warmupCount := 0 }
        te := { s.te with
          fast := if s.te.valid = true then s.te.fast else u.seed
          slow := if s.te.valid = true then s.te.slow else u.seed
          congestion := .clear }
        vu := { s.vu with currentRung := min (min u.startRung u.capRung) (l.rungs.length - 1), dwell := 0 } })
    ∧ (s.sc.governor = .warmup →
      exec (.suspend entry) s = .next { s with sc := { s.sc with governor := .suspended, remembered := some .warmup } })
    ∧ (s.sc.governor = .adapting →
      exec (.suspend entry) s = .next { s with sc := { s.sc with governor := .suspended, remembered := some .adapting } })
    ∧ (s.sc.governor = .suspended → s.sc.remembered = some .adapting →
      exec (.resume entry) s = .next { s with sc := { s.sc with governor := .adapting, remembered := none } })
    ∧ (s.sc.governor = .suspended → s.sc.remembered = some .warmup →
      exec (.resume entry) s = .next { s with sc := { s.sc with
        governor := if s.setup.warmupLength ≤ s.sc.warmupCount then .adapting else .warmup, remembered := none } })

/-- FLUSH frees every slot, empties the queue, stops the slots' timers and sets the dwell count to 0, in every governor state
(R11, R56, R90, R114); TEARDOWN of an armed session does the same, returns to READY and clears the ticket table, keeping
shadows, current rung, dwell count and warmup count (R10, R56, R90). -/
def Obligations.FlushAndTeardownFreeEverySlot : Prop :=
  ∀ (s : State) (entry : Fin 6), s.takesEvents = true →
    exec .flush s = .next { s with
      stu := { slots := Vector.replicate 8 Slot.empty, queue := [] }
      pm := { timers := Vector.replicate 8 SlotTimers.stopped }
      vu := { s.vu with dwell := 0 } }
    ∧ (s.sc.governor.armed = true → exec (.teardown entry) s = .next { s with
      sc := { s.sc with governor := .ready, remembered := none }
      stu := { slots := Vector.replicate 8 Slot.empty, queue := [] }
      pm := { timers := Vector.replicate 8 SlotTimers.stopped }
      vu := { s.vu with tickets := s.vu.tickets.map (fun k => { k with stamp := 0, verdict := none }) } })

/-- SEED sets both estimates to its clamped argument, in every governor state. The two are then equal, so the congestion state ends
CLEAR, and CONGEST is reported exactly when it was CONGESTED (R70). -/
def Obligations.SeedSetsBothEstimates : Prop :=
  ∀ (s : State) (rate : BitVec 32), s.takesEvents = true →
    (∀ u, s.ccu.adoptedSetup = some u → u.rhoIn ≤ 250 ∧ u.rhoOut ≤ 256) →
    exec (.seed rate) s = .next { s with
      te := { s.te with fast := min rate.toNat 1048575, slow := min rate.toNat 1048575, congestion := .clear }
      eru := { s.eru with
        flags := if s.te.congestion = .congested then s.eru.flags ||| 0x010 else s.eru.flags } }

/-- ACK clears the flags its argument names, ENABLE replaces the mask, CLEAR_TALLIES zeroes all 23 tallies; bits 9..31 of an
argument are not read, and the EVT line is then high exactly when some set flag is enabled (R147, R148, R149, R151). -/
def Obligations.AckEnableAndClearTallies : Prop :=
  ∀ (s : State) (mask : BitVec 32), s.takesEvents = true →
    (∃ t, exec (.ack mask) s = .next t ∧ t = { s with eru := { s.eru with flags := t.eru.flags } }
      ∧ (∀ k : Fin 9, t.eru.flags.getLsbD k = (s.eru.flags.getLsbD k && !mask.getLsbD k))
      ∧ (t.evt = true ↔ ∃ k : Fin 9, t.eru.flags.getLsbD k = true ∧ s.eru.enables.getLsbD k = true))
    ∧ (∃ t, exec (.enable mask) s = .next t ∧ t = { s with eru := { s.eru with enables := t.eru.enables } }
      ∧ (∀ k : Fin 9, t.eru.enables.getLsbD k = mask.getLsbD k)
      ∧ (t.evt = true ↔ ∃ k : Fin 9, s.eru.flags.getLsbD k = true ∧ mask.getLsbD k = true))
    ∧ exec .clearTallies s = .next { s with eru := { s.eru with tallies := Tallies.zero } }

/-- A directive that its governor state does not permit, or whose code is 11..255, changes the last-directive note alone
(R5, R6, R8 to R10, R142). -/
def Obligations.IgnoredDirectivesAreNoted : Prop :=
  ∀ (s : State) (entry : Fin 6) (code : Byte), s.takesEvents = true →
    let noted : Byte → DirectiveReason → State := fun c reason =>
      { s with ccu := { s.ccu with directiveNote := some { code := c, entry := entry.val, reason := reason } } }
    (11 ≤ code.toNat → exec (.unknownDirective code entry) s = .next (noted code .unknown))
    ∧ (s.sc.governor = .dormant → exec (.arm entry) s = .next (noted 1 .notReady))
    ∧ (s.sc.governor.armed = true → exec (.arm entry) s = .next (noted 1 .armed))
    ∧ (s.sc.governor.armed = false → exec (.suspend entry) s = .next (noted 2 .notArmed))
    ∧ (s.sc.governor = .suspended → exec (.suspend entry) s = .next (noted 2 .suspended))
    ∧ (s.sc.governor.armed = false → exec (.resume entry) s = .next (noted 3 .notArmed))
    ∧ (s.sc.governor.decides = true → exec (.resume entry) s = .next (noted 3 .notSuspended))
    ∧ (s.sc.governor.armed = false → exec (.teardown entry) s = .next (noted 5 .notArmed))

/-! ### Control records -/

/-- The settings that adoption takes from a SETUP record are in range, whatever its bytes (R1, R61, R64, R68, R69, R73, R76, R96,
R114): each field is taken as stored where it lies in its range and at the nearest end where it does not, whatever the other
fields hold, and a_s, B_up, B_full and grace are then raised (R140). The fields counted as altered are exactly those clamped or
raised, by number (a field clamped and then raised back to its stored value counts too: DEDUCED, notes/assumptions/15.md). -/
def Obligations.AdoptedSettingsAreInRange : Prop :=
  ∀ m : ByteStore,
    let stored : Setup :=
      { mode := readField m 0x01 1, pinnedRung := readField m 0x02 1, startRung := readField m 0x03 1,
        capRung := readField m 0x04 1, shiftFast := readField m 0x05 1, shiftSlow := readField m 0x06 1,
        dwellMin := readField m 0x07 1, warmupLength := readField m 0x08 1, abandonEnable := readField m 0x09 1,
        sigma := readField m 0x0A 2, sigmaCongested := readField m 0x0C 2, rhoIn := readField m 0x0E 2,
        rhoOut := readField m 0x10 2, gapLimit := readField m 0x12 2, stallTime := readField m 0x14 2,
        checkTime := readField m 0x16 2, guard := readField m 0x18 2, graceTime := readField m 0x1A 2,
        seed := readField m 0x1C 4, minSample := readField m 0x20 4, bPanic := readField m 0x24 4, bUp := readField m 0x28 4,
        bTarget := readField m 0x2C 4, bFull := readField m 0x30 4 }
    let taken := settingsValues (readSetup m)
    let nearest : Nat → Nat → Nat → Nat := fun low high v => if v < low then low else if high < v then high else v
    let raised : Nat → Nat → Nat := fun v least => if v < least then least else v
    let outside : Nat → Nat → Nat → Bool := fun low high v => decide (v < low ∨ high < v)
    let changed : List (Nat × Bool) :=
      [(1, outside 0 1 stored.mode), (2, outside 0 11 stored.pinnedRung), (3, outside 0 11 stored.startRung),
        (4, outside 0 11 stored.capRung), (5, outside 1 4 stored.shiftFast),
        (6, outside 2 7 stored.shiftSlow || decide (nearest 2 7 stored.shiftSlow < taken.shiftFast + 1)),
        (7, outside 0 15 stored.dwellMin), (8, outside 0 8 stored.warmupLength), (9, outside 0 1 stored.abandonEnable),
        (10, outside 64 256 stored.sigma), (11, outside 64 taken.sigma stored.sigmaCongested),
        (12, outside 64 250 stored.rhoIn), (13, outside (taken.rhoIn + 6) 256 stored.rhoOut),
        (14, outside 1 2000 stored.gapLimit), (15, outside 50 10000 stored.stallTime), (16, outside 50 5000 stored.checkTime),
        (17, outside 0 30000 stored.guard), (18, outside 50 10000 stored.graceTime || decide (nearest 50 10000 stored.graceTime < 100)),
        (19, outside 0 1048575 stored.seed), (20, outside 0 16777216 stored.minSample), (21, outside 0 120000 stored.bPanic),
        (22, outside 0 120000 stored.bUp || decide (nearest 0 120000 stored.bUp < taken.bPanic)),
        (23, outside 0 120000 stored.bTarget),
        (24, outside 0 120000 stored.bFull || decide (nearest 0 120000 stored.bFull < taken.bTarget + 10))]
    SettingsInRange taken
      ∧ taken =
        { mode := nearest 0 1 stored.mode, pinnedRung := nearest 0 11 stored.pinnedRung,
          startRung := nearest 0 11 stored.startRung, capRung := nearest 0 11 stored.capRung,
          shiftFast := nearest 1 4 stored.shiftFast, shiftSlow := raised (nearest 2 7 stored.shiftSlow) (taken.shiftFast + 1),
          dwellMin := nearest 0 15 stored.dwellMin, warmupLength := nearest 0 8 stored.warmupLength,
          abandonEnable := nearest 0 1 stored.abandonEnable, sigma := nearest 64 256 stored.sigma,
          sigmaCongested := nearest 64 taken.sigma stored.sigmaCongested, rhoIn := nearest 64 250 stored.rhoIn,
          rhoOut := nearest (taken.rhoIn + 6) 256 stored.rhoOut, gapLimit := nearest 1 2000 stored.gapLimit,
          stallTime := nearest 50 10000 stored.stallTime, checkTime := nearest 50 5000 stored.checkTime,
          guard := nearest 0 30000 stored.guard, graceTime := raised (nearest 50 10000 stored.graceTime) 100,
          seed := nearest 0 1048575 stored.seed, minSample := nearest 0 16777216 stored.minSample,
          bPanic := nearest 0 120000 stored.bPanic, bUp := raised (nearest 0 120000 stored.bUp) taken.bPanic,
          bTarget := nearest 0 120000 stored.bTarget, bFull := raised (nearest 0 120000 stored.bFull) (taken.bTarget + 10) }
      ∧ alteredFrom 1 (settingsList (readSetup m)) = (changed.filter (fun f => f.2)).map (fun f => f.1)
      ∧ (SettingsInRange stored → stored.bFull ≤ 120000 →
          taken = stored ∧ alteredFrom 1 (settingsList (readSetup m)) = [])

/-- A whole SETUP record under a new stamp is adopted: its settings take effect, the clamp note is replaced, the stamp is adopted,
the counter advances, and SC makes its readiness and warmup tests (R3, R15, R138, R139, R140). -/
def Obligations.SetupRecordIsAdopted : Prop :=
  ∀ (s : State) (w : BusWrite), s.presents .setup w = true →
    let m := s.shadowAfter w
    let u := settingsValues (readSetup m)
    let altered := alteredFrom 1 (settingsList (readSetup m))
    let ready := s.ccu.posLadder.adoptedStamp ≠ 0 ∧ s.ccu.posWindows.adoptedStamp ≠ 0
    exec (.setup w) s = .next { s with
      ports := { s.ports with write := some w }
      ccu := { s.ccu with
        shadow := m
        posSetup := { adoptedStamp := s.stampAfter .setup w, rejectedStamp := 0, pending := false, settle := none }
        adoptedSetup := some u
        counter := if 63 ≤ s.ccu.counter then 1 else s.ccu.counter + 1
        clampNote := some { position := .setup, count := altered.length, first := altered.headD 0 } }
      sc := { s.sc with governor :=
        if s.sc.governor = .dormant ∧ ready then .ready
        else if s.sc.governor = .warmup ∧ u.warmupLength ≤ s.sc.warmupCount then .adapting
        else s.sc.governor } }

/-- A whole LADDER record under a new stamp is rejected for its shape, else because a slot is live, else adopted: its rungs
replace the ladder in force and SC makes its readiness test (R3, R81 to R83, R137, R138, R139). -/
def Obligations.LadderRecordIsJudged : Prop :=
  ∀ (s : State) (w : BusWrite), s.presents .ladder w = true →
    let m := s.shadowAfter w
    let rate : Nat → Nat := fun k => readField m (0x104 + 4 * k) 2
    let trim : Nat → Int := fun k => ((readByte m (0x106 + 4 * k)).toInt)
    let shape := 1 ≤ readRungCount m ∧ readRungCount m ≤ 12 ∧ (∀ k, k < readRungCount m → 64 ≤ rate k)
      ∧ ∀ k, k + 1 < readRungCount m → rate k < rate (k + 1)
    let rejected : RejectReason → State := fun reason => { s with
      ports := { s.ports with write := some w }
      ccu := { s.ccu with
        shadow := m
        posLadder := { s.ccu.posLadder with rejectedStamp := s.stampAfter .ladder w, pending := false, settle := none }
        rejectionNote := some { position := .ladder, reason := reason, stamp := s.stampAfter .ladder w } }
      eru := { s.eru with
        flags := s.eru.flags ||| 0x040
        tallies := { s.eru.tallies with rejections := min (s.eru.tallies.rejections + 1) (2 ^ 32 - 1) } } }
    (¬ shape → exec (.ladder w) s = .next (rejected .shape))
    ∧ (shape → s.anyLive = true → exec (.ladder w) s = .next (rejected .inuse))
    ∧ (shape → s.anyLive = false → exec (.ladder w) s = .next { s with
      ports := { s.ports with write := some w }
      ccu := { s.ccu with
        shadow := m
        posLadder := { adoptedStamp := s.stampAfter .ladder w, rejectedStamp := 0, pending := false, settle := none }
        adoptedLadder := some
          { rungs := (List.range (readRungCount m)).map (fun k => { nominal := rate k, trim := trim k }) }
        counter := if 63 ≤ s.ccu.counter then 1 else s.ccu.counter + 1 }
      sc := { s.sc with governor :=
        if s.sc.governor = .dormant ∧ s.ccu.posSetup.adoptedStamp ≠ 0 ∧ s.ccu.posWindows.adoptedStamp ≠ 0 then .ready
        else s.sc.governor } })

/-- A whole WINDOWS record under a new stamp is rejected for its bounds, else because a slot is live, else adopted with its maximum
capacity clamped into 4,096..67,108,864 (R3, R137 to R141). -/
def Obligations.WindowsRecordIsJudged : Prop :=
  ∀ (s : State) (w : BusWrite), s.presents .windows w = true →
    let m := s.shadowAfter w
    let low := readField m 0x208 5
    let high := readField m 0x210 5
    let capacity := readField m 0x218 4
    let shape := low < high ∧ ¬ (low < s.pageStart + 4096 ∧ s.pageStart < high)
    let fits := 4096 ≤ capacity ∧ capacity ≤ 67108864
    let rejected : RejectReason → State := fun reason => { s with
      ports := { s.ports with write := some w }
      ccu := { s.ccu with
        shadow := m
        posWindows := { s.ccu.posWindows with rejectedStamp := s.stampAfter .windows w, pending := false, settle := none }
        rejectionNote := some { position := .windows, reason := reason, stamp := s.stampAfter .windows w } }
      eru := { s.eru with
        flags := s.eru.flags ||| 0x040
        tallies := { s.eru.tallies with rejections := min (s.eru.tallies.rejections + 1) (2 ^ 32 - 1) } } }
    (¬ shape → exec (.windows w) s = .next (rejected .shape))
    ∧ (shape → s.anyLive = true → exec (.windows w) s = .next (rejected .inuse))
    ∧ (shape → s.anyLive = false → exec (.windows w) s = .next { s with
      ports := { s.ports with write := some w }
      ccu := { s.ccu with
        shadow := m
        posWindows := { adoptedStamp := s.stampAfter .windows w, rejectedStamp := 0, pending := false, settle := none }
        adoptedWindows := some
          { fillValue := readByte m 0x201, fillMask := readByte m 0x202, drainValue := readByte m 0x203,
            drainMask := readByte m 0x204, low := low, high := high, maxCapacity := max 4096 (min capacity 67108864) }
        clampNote := some
          { position := .windows, count := if fits then 0 else 1, first := if fits then 0 else 5 }
        counter := if 63 ≤ s.ccu.counter then 1 else s.ccu.counter + 1 }
      sc := { s.sc with governor :=
        if s.sc.governor = .dormant ∧ s.ccu.posSetup.adoptedStamp ≠ 0 ∧ s.ccu.posLadder.adoptedStamp ≠ 0 then .ready
        else s.sc.governor } })

/-- A whole DIRECTIVE record under a new stamp is adopted, and its list is then its directives taken one by one, each on the state
the one before it left, up to the first code 0, a RESTART or the sixth entry (R5, R12, R138, R142; notes/assumptions/5.md). -/
def Obligations.DirectiveListIsItsEntries : Prop :=
  ∀ (s : State) (w : BusWrite), s.presents .directive w = true →
    let cmds := listCommands 0 (readEntries (s.shadowAfter w))
    exec (.directive w) s = Host.Core.run Sys2Proof.core cmds.length { s with
      ports := { s.ports with write := some w }
      ccu := { s.ccu with
        shadow := s.shadowAfter w
        posDirective := { adoptedStamp := s.stampAfter .directive w, rejectedStamp := 0, pending := false, settle := none }
        counter := if 63 ≤ s.ccu.counter then 1 else s.ccu.counter + 1 }
      pending := cmds ++ s.pending }

/-- A write to a record position whose record is not whole leaves it pending with its settle timer started from the write's part
time; one whose stamp is 0, or is the adopted or rejected stamp of a whole record, takes no action (R135). -/
def Obligations.RecordsThatAreNotTaken : Prop :=
  ∀ (s : State) (p : Position) (w : BusWrite), s.writeFallsIn w (.control p) = true →
    let after : PositionState → State := fun x =>
      { s with
        ports := { s.ports with write := some w }
        ccu := { s.ccu with shadow := s.shadowAfter w } }.setPosition p x
    (s.stampAfter p w = 0 →
      exec (recordWrite p w) s = .next (after { s.position p with pending := false, settle := none }))
    ∧ (s.stampAfter p w ≠ 0 → checkMatches (s.shadowAfter w) p = false →
      exec (recordWrite p w) s = .next (after { s.position p with pending := true, settle := some s.tb.partTime }))
    ∧ (checkMatches (s.shadowAfter w) p = true →
      s.stampAfter p w = (s.position p).adoptedStamp ∨ s.stampAfter p w = (s.position p).rejectedStamp →
      exec (recordWrite p w) s = .next (after { s.position p with pending := false, settle := none }))

/-- The capture shadow holds the last strobed byte written at each page offset, and every other byte as it was (R133). -/
def Obligations.CaptureShadowHoldsTheStrobedBytes : Prop :=
  ∀ (s : State) (w : BusWrite) (a : Nat), ByteStore.wf s.ccu.shadow = true → s.pageStart ≤ w.addr.toNat →
    let i := s.pageStart + a - w.addr.toNat
    readByte (s.shadowAfter w) a =
      if w.addr.toNat ≤ s.pageStart + a then
        match w.lanes[i]? with
        | some lane => if lane.strobe = true then lane.data else readByte s.ccu.shadow a
        | none => readByte s.ccu.shadow a
      else readByte s.ccu.shadow a

/-- A record in which one byte before the check field is changed, be it the stamp or an unused byte, has another check code
(R134). -/
def Obligations.CheckCodeCatchesAChangedByte : Prop :=
  ∀ (m m' : ByteStore) (p : Position) (a : Nat), positionOffset p ≤ a → a < positionOffset p + positionSize p - 2 →
    (∀ b, b ≠ a → readByte m b = readByte m' b) → readByte m a ≠ readByte m' a → checkCode m p ≠ checkCode m' p

/-! ### Tickets -/

/-- Writes to a request half that take no request: one that does not strobe byte 0 changes the shadow alone; a closing write of
stamp 0 also clears the entry; one of the entry stamp changes the shadow alone (R91, R92). -/
def Obligations.RequestHalfWritesThatTakeNothing : Prop :=
  ∀ (s : State) (k : Fin 16) (w : BusWrite), s.writeFallsIn w (.request k) = true →
    let after : Ticket → State := fun x =>
      { s with ports := { s.ports with write := some w }, vu := { s.vu with tickets := s.vu.tickets.set k x } }
    let stamp := readByte (s.requestAfter k w) 0
    (s.closes k w = false →
      exec (.requestHalfWrite w) s = .next (after { s.ticket k with shadow := s.requestAfter k w }))
    ∧ (s.closes k w = true → stamp = 0 →
      exec (.entryClear w) s = .next (after { stamp := 0, verdict := none, shadow := s.requestAfter k w }))
    ∧ (s.closes k w = true → stamp ≠ 0 → stamp = (s.ticket k).stamp →
      exec (.closingWriteSameStamp w) s = .next (after { s.ticket k with shadow := s.requestAfter k w }))

/-- A request of kind 0 or 5..255 is answered BADREQ at once, and counts as a refusal (R93, R94). -/
def Obligations.UnknownKindIsRefused : Prop :=
  ∀ (s : State) (k : Fin 16) (w : BusWrite) (q : Request), s.brings k w q = true → q.kind = 0 ∨ 5 ≤ q.kind →
    let answer : Verdict :=
      { code := .badreq, echo := q.stamp, rung := 0, slot := 0, holdUnits := 0, expected := 0, decisionTick := s.tb.partTime,
        deadlineTick := 0, bufferLevel := 0, safeRate := 0 }
    let latched : Ticket := { stamp := q.stamp, verdict := some answer, shadow := s.requestAfter k w }
    exec (.unknownKind w) s = .next { s with
      ports := { s.ports with write := some w }
      vu := { s.vu with tickets := s.vu.tickets.set k latched }
      eru := { s.eru with
        tallies := { s.eru.tallies with refusals := min (s.eru.tallies.refusals + 1) (2 ^ 32 - 1) } } }

/-- A valid FETCH of a segment and a window that no live slot holds, with a slot FREE, B below B_full and a rung that fits, is
answered GO: the lowest FREE slot is allocated at the highest fitting rung at or below the capped choice of the rung step, its
stall timer starts, and current rung and dwell count follow (R37, R97, R105 to R107, R115). -/
def Obligations.FetchIsAnsweredGo : Prop :=
  ∀ (s : State) (k : Fin 16) (w : BusWrite) (q : Request) (n : Fin 8) (rung : Nat), s.brings k w q = true → q.kind = 1 →
    s.sc.governor.decides = true →
    1 ≤ q.duration ∧ q.duration ≤ 20000 ∧ 1 ≤ q.capacity ∧ q.capacity ≤ s.windows.maxCapacity ∧ q.base < 2 ^ 40
      ∧ s.windows.low ≤ q.base ∧ q.base + q.capacity ≤ s.windows.high →
    (∀ m : Fin 8, (s.slot m).state.live = true → (s.slot m).segment ≠ q.segment
      ∧ ((s.slot m).base + (s.slot m).capacity ≤ q.base ∨ q.base + q.capacity ≤ (s.slot m).base)) →
    (s.slot n).state = .free → (∀ m : Fin 8, m < n → (s.slot m).state ≠ .free) →
    s.bufferLevel < s.setup.bFull →
    rung ≤ min (rungStep s) (min s.setup.capRung (rungCount s.ladder - 1)) →
    expectedBytes s.ladder rung q.duration ≤ q.capacity →
    (∀ j, rung < j → j ≤ min (rungStep s) (min s.setup.capRung (rungCount s.ladder - 1)) →
      q.capacity < expectedBytes s.ladder j q.duration) →
    let r := s.vu.currentRung
    let answer : Verdict :=
      { code := .go, echo := q.stamp, rung := rung, slot := n.val, holdUnits := 0,
        expected := expectedBytes s.ladder rung q.duration, decisionTick := s.tb.partTime,
        deadlineTick := s.tb.partTime + BitVec.ofNat 32 s.bufferLevel, bufferLevel := s.bufferLevel, safeRate := safeRate s }
    let latched : Ticket := { stamp := q.stamp, verdict := some answer, shadow := s.requestAfter k w }
    let issued : Slot :=
      { state := .issued, segment := q.segment, rung := rung, duration := q.duration, base := q.base,
        capacity := q.capacity, length := none, expected := expectedBytes s.ladder rung q.duration,
        issueTick := s.tb.partTime, lastFill := none, longSilence := false, fillMark := 0, drainMark := 0, activeMs := 0,
        stalled := false, advisedRung := none, overfill := false, earlyUnderrun := false }
    let stall : Timer := { start := s.tb.partTime, duration := s.setup.stallTime }
    exec (.fetch w) s = .next { s with
      ports := { s.ports with write := some w }
      stu := { s.stu with slots := s.stu.slots.set n issued }
      pm := { timers := s.pm.timers.set n { stall := some stall, check := none, grace := none } }
      vu := { s.vu with
        tickets := s.vu.tickets.set k latched
        currentRung := rung
        dwell := if rung = r then min (s.vu.dwell + 1) 255 else 1 }
      eru := { s.eru with
        flags := if rung = r then s.eru.flags else s.eru.flags ||| 0x020
        tallies := { s.eru.tallies with
          upSwitches :=
            if r < rung then min (s.eru.tallies.upSwitches + 1) (2 ^ 32 - 1) else s.eru.tallies.upSwitches
          downSwitches :=
            if rung < r then min (s.eru.tallies.downSwitches + 1) (2 ^ 32 - 1) else s.eru.tallies.downSwitches } } }

/-- The steps that end a FETCH before GO, in their order: state, validity, duplicate, overlap, full, hold and capacity fit, each
with its verdict, and none with any other effect than its tally (R93, R94, R97 to R102, R106). -/
def Obligations.FetchStepsThatEndIt : Prop :=
  ∀ (s : State) (k : Fin 16) (w : BusWrite) (q : Request), s.brings k w q = true → q.kind = 1 →
    let plain : VerdictCode → Verdict := fun code =>
      { code := code, echo := q.stamp, rung := 0, slot := 0, holdUnits := 0, expected := 0, decisionTick := s.tb.partTime,
        deadlineTick := 0, bufferLevel := 0, safeRate := 0 }
    let timed : VerdictCode → Nat → Verdict := fun code units => { plain code with
      holdUnits := units, deadlineTick := s.tb.partTime + BitVec.ofNat 32 s.bufferLevel, bufferLevel := s.bufferLevel,
      safeRate := safeRate s }
    let answered : Verdict → Tallies → State := fun v tallies =>
      let latched : Ticket := { stamp := q.stamp, verdict := some v, shadow := s.requestAfter k w }
      { s with
        ports := { s.ports with write := some w }
        vu := { s.vu with tickets := s.vu.tickets.set k latched }
        eru := { s.eru with tallies := tallies } }
    let refused := { s.eru.tallies with refusals := min (s.eru.tallies.refusals + 1) (2 ^ 32 - 1) }
    let held := { s.eru.tallies with holds := min (s.eru.tallies.holds + 1) (2 ^ 32 - 1) }
    let valid := 1 ≤ q.duration ∧ q.duration ≤ 20000 ∧ 1 ≤ q.capacity ∧ q.capacity ≤ s.windows.maxCapacity
      ∧ q.base < 2 ^ 40 ∧ s.windows.low ≤ q.base ∧ q.base + q.capacity ≤ s.windows.high
    let holds : Fin 8 → Prop := fun n => (s.slot n).state.live = true ∧ (s.slot n).segment = q.segment
    let overlaps : Fin 8 → Prop := fun n => (s.slot n).state.live = true
      ∧ q.base < (s.slot n).base + (s.slot n).capacity ∧ (s.slot n).base < q.base + q.capacity
    let limit := min (rungStep s) (min s.setup.capRung (rungCount s.ladder - 1))
    (s.sc.governor = .dormant ∨ s.sc.governor = .ready →
      exec (.fetch w) s = .next (answered (plain .notArmed) s.eru.tallies))
    ∧ (s.sc.governor = .suspended → exec (.fetch w) s = .next (answered (plain .suspended) s.eru.tallies))
    ∧ (s.sc.governor.decides = true → ¬ valid → exec (.fetch w) s = .next (answered (plain .badreq) refused))
    ∧ (s.sc.governor.decides = true → valid →
      (∀ n, holds n → (∀ m, m < n → ¬ holds m) →
        exec (.fetch w) s
          = .next (answered { plain .duplicate with slot := n.val, rung := (s.slot n).rung } refused))
      ∧ ((∀ n, ¬ holds n) →
        (∀ n, overlaps n → (∀ m, m < n → ¬ overlaps m) →
          exec (.fetch w) s = .next (answered { plain .overlap with slot := n.val } refused))
        ∧ ((∀ n, ¬ overlaps n) →
          ((∀ n : Fin 8, (s.slot n).state ≠ .free) → exec (.fetch w) s = .next (answered (plain .full) refused))
          ∧ ((∃ n : Fin 8, (s.slot n).state = .free) →
            (s.setup.bFull ≤ s.bufferLevel →
              exec (.fetch w) s = .next
                (answered (timed .hold (min (s.bufferLevel - s.setup.bTarget) 1270 / 10)) held))
            ∧ (s.bufferLevel < s.setup.bFull →
              (∀ j, j ≤ limit → q.capacity < expectedBytes s.ladder j q.duration) →
              exec (.fetch w) s = .next (answered (timed .small 0) refused))))))

/-- The rung step, in the order of its cases: PINNED, panic, WARMUP, and in ADAPTING a fall to the candidate or a rise by one rung
(R103, R104). The cap step then bounds every choice by min(cap rung, N − 1) (R105). -/
def Obligations.RungStepCases : Prop :=
  ∀ s : State,
    let c := candidate s.ladder (safeRate s)
    let r := s.vu.currentRung
    (∀ rung, capRung s rung = min rung (min s.setup.capRung (rungCount s.ladder - 1)))
    ∧ (s.setup.mode = 1 → rungStep s = s.setup.pinnedRung)
    ∧ (s.setup.mode = 0 → s.bufferLevel < s.setup.bPanic → rungStep s = 0)
    ∧ (s.setup.mode = 0 → s.setup.bPanic ≤ s.bufferLevel →
      (s.sc.governor = .warmup → rungStep s = r)
      ∧ (s.sc.governor = .adapting →
        (c < r → rungStep s = c)
        ∧ (c = r → rungStep s = r)
        ∧ (r < c → s.setup.bUp ≤ s.bufferLevel ∧ s.te.congestion = .clear ∧ s.setup.dwellMin ≤ s.vu.dwell →
          rungStep s = r + 1)
        ∧ (r < c → ¬ (s.setup.bUp ≤ s.bufferLevel ∧ s.te.congestion = .clear ∧ s.setup.dwellMin ≤ s.vu.dwell) →
          rungStep s = r)))

/-- The capacity fit lowers the rung to the highest one at or below it whose expected bytes are within the capacity, and finds none
exactly when rung 0 does not fit either (R106); on a legal ladder every rung below one that fits fits too. -/
def Obligations.CapacityFitFindsTheHighestRung : Prop :=
  ∀ (l : Ladder) (duration capacity rung : Nat), LadderLegal l → rung < rungCount l →
    (∀ k e, capacityFit l duration capacity rung = some (k, e) ↔
      k ≤ rung ∧ e = (ladderRung l k).nominal * duration / 8 ∧ e ≤ capacity
        ∧ ∀ j, k < j → j ≤ rung → capacity < (ladderRung l j).nominal * duration / 8)
    ∧ (capacityFit l duration capacity rung = none ↔ capacity < (ladderRung l 0).nominal * duration / 8)
    ∧ ∀ i j, i ≤ j → j < rungCount l → expectedBytes l i duration ≤ expectedBytes l j duration

/-- Every GO names a rung no higher than the cap rung and N − 1, and a slot that was FREE until it; an ADAPTIVE FETCH rises by at
most one rung above the current rung, and a REPLACE goes below the rung of the slot it replaces (R107). -/
def Obligations.GoVerdictsStayInBounds : Prop :=
  ∀ (s u : State) (k : Fin 16) (w : BusWrite) (q : Request) (c : Instr) (v : Verdict), s.brings k w q = true →
    writeOf c = some w → exec c s = .next u → (u.ticket k).verdict = some v → v.code = .go →
    v.rung ≤ s.setup.capRung ∧ v.rung ≤ rungCount s.ladder - 1
      ∧ (∃ n : Fin 8, v.slot = n.val ∧ (u.slot n).state = .issued
        ∧ ((s.slot n).state = .free ∨ (q.kind = 4 ∧ s.unlandedHolding q.segment = some n)))
      ∧ (q.kind = 1 → s.setup.mode ≠ 1 → v.rung ≤ s.vu.currentRung + 1)
      ∧ (q.kind = 4 → ∃ n : Fin 8, s.unlandedHolding q.segment = some n ∧ v.rung < (s.slot n).rung)

/-- A LENGTH request that STU takes, for an unlanded slot whose length is absent, is answered DONE; a value above the fill mark and
within the capacity becomes the length, one above the capacity becomes the capacity with OVERFILL, and one that leaves the fill
mark at the length lands the slot (R40 to R43, R94, R108). -/
def Obligations.LengthIsDeclared : Prop :=
  ∀ (s : State) (k : Fin 16) (w : BusWrite) (q : Request) (n : Fin 8), s.brings k w q = true → q.kind = 2 →
    1 ≤ q.length → (s.slot n).state.unlanded = true → (s.slot n).segment = q.segment →
    (∀ m : Fin 8, m ≠ n → (s.slot m).state.live = true → (s.slot m).segment ≠ q.segment) →
    (s.slot n).length = none → (s.slot n).fillMark ≤ (s.slot n).capacity →
    let x := s.slot n
    let v := q.length
    let answer : Verdict :=
      { code := .done, echo := q.stamp, rung := x.rung, slot := n.val, holdUnits := 0, expected := 0,
        decisionTick := s.tb.partTime, deadlineTick := 0, bufferLevel := 0, safeRate := 0 }
    let latched : Ticket := { stamp := q.stamp, verdict := some answer, shadow := s.requestAfter k w }
    let marked : Slot → State := fun y => { s with
      ports := { s.ports with write := some w }
      stu := { s.stu with slots := s.stu.slots.set n y } }
    let flagged : State → State := fun t => { t with eru := { t.eru with flags := t.eru.flags ||| 0x080 } }
    let answered : State → State := fun t => { t with vu := { t.vu with tickets := t.vu.tickets.set k latched } }
    (x.fillMark < v → v ≤ x.capacity →
      exec (.length w) s = .next (answered (marked { x with length := some v })))
    ∧ (x.fillMark = v → exec (.length w) s = .next (answered (land (marked { x with length := some v }) n)))
    ∧ (x.capacity < v →
      let full := flagged (marked { x with length := some x.capacity, overfill := true })
      exec (.length w) s = .next (answered (if x.fillMark = x.capacity then land full n else full)))
    ∧ (v < x.fillMark →
      let cut := flagged (marked
        { x with length := some v, fillMark := v, drainMark := min x.drainMark v, overfill := true })
      exec (.length w) s = .next (answered (land cut n)))

/-- The other answers to a LENGTH, in their order: BADREQ for a value of 0, UNKNOWN when no unlanded slot holds the segment,
ALREADY when its length is present; none changes a slot (R108). -/
def Obligations.LengthIsNotDeclared : Prop :=
  ∀ (s : State) (k : Fin 16) (w : BusWrite) (q : Request), s.brings k w q = true → q.kind = 2 →
    let plain : VerdictCode → Verdict := fun code =>
      { code := code, echo := q.stamp, rung := 0, slot := 0, holdUnits := 0, expected := 0, decisionTick := s.tb.partTime,
        deadlineTick := 0, bufferLevel := 0, safeRate := 0 }
    let answered : Verdict → Tallies → State := fun v tallies =>
      let latched : Ticket := { stamp := q.stamp, verdict := some v, shadow := s.requestAfter k w }
      { s with
        ports := { s.ports with write := some w }
        vu := { s.vu with tickets := s.vu.tickets.set k latched }
        eru := { s.eru with tallies := tallies } }
    let refused := { s.eru.tallies with refusals := min (s.eru.tallies.refusals + 1) (2 ^ 32 - 1) }
    (q.length = 0 → exec (.length w) s = .next (answered (plain .badreq) refused))
    ∧ (1 ≤ q.length →
      (∀ m : Fin 8, (s.slot m).state.unlanded = true → (s.slot m).segment ≠ q.segment) →
      exec (.length w) s = .next (answered (plain .unknown) s.eru.tallies))
    ∧ (1 ≤ q.length → ∀ n : Fin 8, (s.slot n).state.unlanded = true → (s.slot n).segment = q.segment →
      (∀ m : Fin 8, m ≠ n → (s.slot m).state.live = true → (s.slot m).segment ≠ q.segment) →
      (s.slot n).length.isSome = true →
      exec (.length w) s
        = .next (answered { plain .already with slot := n.val, rung := (s.slot n).rung } s.eru.tallies))

/-- A DROP frees the live slot holding the segment, in any live state and any governor state, with no sample, no credit and no
event, and is answered DONE; with no such slot it is answered UNKNOWN (R54, R55, R94, R109). -/
def Obligations.DropFreesTheSlot : Prop :=
  ∀ (s : State) (k : Fin 16) (w : BusWrite) (q : Request), s.brings k w q = true → q.kind = 3 →
    let answered : VerdictCode → Nat → Nat → State := fun code slot rung =>
      let answer : Verdict :=
        { code := code, echo := q.stamp, rung := rung, slot := slot, holdUnits := 0, expected := 0,
          decisionTick := s.tb.partTime, deadlineTick := 0, bufferLevel := 0, safeRate := 0 }
      let latched : Ticket := { stamp := q.stamp, verdict := some answer, shadow := s.requestAfter k w }
      { s with
        ports := { s.ports with write := some w }
        vu := { s.vu with tickets := s.vu.tickets.set k latched } }
    (∀ n : Fin 8, (s.slot n).state.live = true → (s.slot n).segment = q.segment →
      (∀ m : Fin 8, m < n → (s.slot m).state.live = true → (s.slot m).segment ≠ q.segment) →
      exec (.drop w) s = .next { answered .done n.val (s.slot n).rung with
        stu := { slots := s.stu.slots.set n Slot.empty, queue := s.stu.queue.filter (fun m => decide (m ≠ n)) }
        pm := { timers := s.pm.timers.set n SlotTimers.stopped } })
    ∧ ((∀ m : Fin 8, (s.slot m).state.live = true → (s.slot m).segment ≠ q.segment) →
      exec (.drop w) s = .next (answered .unknown 0 0))

/-- A REPLACE of an unlanded slot above rung 0 frees it and decides its segment anew: with the new window valid and apart from every
other live one, it is answered GO at the highest fitting rung at or below the smallest of the decision rung, the advised rung and
the old rung less 1, within the cap (R37, R55, R105 to R107, R110, R111). -/
def Obligations.ReplaceIsAnsweredGo : Prop :=
  ∀ (s : State) (k : Fin 16) (w : BusWrite) (q : Request) (old n : Fin 8) (rung : Nat), s.brings k w q = true →
    q.kind = 4 → s.sc.governor.decides = true →
    (s.slot old).state.unlanded = true → (s.slot old).segment = q.segment →
    (∀ m : Fin 8, m < old → (s.slot m).state.unlanded = true → (s.slot m).segment ≠ q.segment) → 1 ≤ (s.slot old).rung →
    1 ≤ q.duration ∧ q.duration ≤ 20000 ∧ 1 ≤ q.capacity ∧ q.capacity ≤ s.windows.maxCapacity ∧ q.base < 2 ^ 40
      ∧ s.windows.low ≤ q.base ∧ q.base + q.capacity ≤ s.windows.high →
    (∀ m : Fin 8, m ≠ old → (s.slot m).state.live = true →
      (s.slot m).base + (s.slot m).capacity ≤ q.base ∨ q.base + q.capacity ≤ (s.slot m).base) →
    (n = old ∨ (s.slot n).state = .free) → (∀ m : Fin 8, m < n → m ≠ old ∧ (s.slot m).state ≠ .free) →
    old ∉ s.stu.queue →
    let decision := rungStep s
    let choice := min (min decision ((s.slot old).advisedRung.getD decision)) ((s.slot old).rung - 1)
    let limit := min choice (min s.setup.capRung (rungCount s.ladder - 1))
    rung ≤ limit → expectedBytes s.ladder rung q.duration ≤ q.capacity →
    (∀ j, rung < j → j ≤ limit → q.capacity < expectedBytes s.ladder j q.duration) →
    let r := s.vu.currentRung
    let answer : Verdict :=
      { code := .go, echo := q.stamp, rung := rung, slot := n.val, holdUnits := 0,
        expected := expectedBytes s.ladder rung q.duration, decisionTick := s.tb.partTime,
        deadlineTick := s.tb.partTime + BitVec.ofNat 32 s.bufferLevel, bufferLevel := s.bufferLevel, safeRate := safeRate s }
    let latched : Ticket := { stamp := q.stamp, verdict := some answer, shadow := s.requestAfter k w }
    let issued : Slot := { Slot.empty with
      state := .issued, segment := q.segment, rung := rung, duration := q.duration, base := q.base,
      capacity := q.capacity, expected := expectedBytes s.ladder rung q.duration, issueTick := s.tb.partTime }
    let stall : Timer := { start := s.tb.partTime, duration := s.setup.stallTime }
    let started : SlotTimers := { stall := some stall, check := none, grace := none }
    exec (.replace w) s = .next { s with
      ports := { s.ports with write := some w }
      stu := { s.stu with slots := (s.stu.slots.set old Slot.empty).set n issued }
      pm := { timers := (s.pm.timers.set old SlotTimers.stopped).set n started }
      vu := { s.vu with
        tickets := s.vu.tickets.set k latched
        currentRung := rung
        dwell := if rung = r then min (s.vu.dwell + 1) 255 else 1 }
      eru := { s.eru with
        flags := if rung = r then s.eru.flags else s.eru.flags ||| 0x020
        tallies := { s.eru.tallies with
          upSwitches :=
            if r < rung then min (s.eru.tallies.upSwitches + 1) (2 ^ 32 - 1) else s.eru.tallies.upSwitches
          downSwitches :=
            if rung < r then min (s.eru.tallies.downSwitches + 1) (2 ^ 32 - 1) else s.eru.tallies.downSwitches } } }

/-- The other answers to a REPLACE, each with its whole verdict (R94): NOT_ARMED, SUSPENDED, UNKNOWN and, for an old rung of 0,
BADREQ leave the old slot as it was; BADREQ, OVERLAP (naming the lowest-numbered overlapping slot) and SMALL (with B and S) for
the new fetch come after it has been freed, and B excludes it (R110, R111). -/
def Obligations.ReplaceStepsThatEndIt : Prop :=
  ∀ (s : State) (k : Fin 16) (w : BusWrite) (q : Request), s.brings k w q = true → q.kind = 4 →
    let plain : VerdictCode → Verdict := fun code =>
      { code := code, echo := q.stamp, rung := 0, slot := 0, holdUnits := 0, expected := 0, decisionTick := s.tb.partTime,
        deadlineTick := 0, bufferLevel := 0, safeRate := 0 }
    let answered : Verdict → Nat → State → State := fun v refusals t =>
      let latched : Ticket := { stamp := q.stamp, verdict := some v, shadow := s.requestAfter k w }
      { t with
        ports := { s.ports with write := some w }
        vu := { s.vu with tickets := s.vu.tickets.set k latched }
        eru := { s.eru with tallies := { s.eru.tallies with refusals := refusals } } }
    let counted := min (s.eru.tallies.refusals + 1) (2 ^ 32 - 1)
    let holds : Fin 8 → Prop := fun n => (s.slot n).state.unlanded = true ∧ (s.slot n).segment = q.segment
    let valid := 1 ≤ q.duration ∧ q.duration ≤ 20000 ∧ 1 ≤ q.capacity ∧ q.capacity ≤ s.windows.maxCapacity
      ∧ q.base < 2 ^ 40 ∧ s.windows.low ≤ q.base ∧ q.base + q.capacity ≤ s.windows.high
    (s.sc.governor = .dormant ∨ s.sc.governor = .ready →
      exec (.replace w) s = .next (answered (plain .notArmed) s.eru.tallies.refusals s))
    ∧ (s.sc.governor = .suspended →
      exec (.replace w) s = .next (answered (plain .suspended) s.eru.tallies.refusals s))
    ∧ (s.sc.governor.decides = true →
      ((∀ n, ¬ holds n) → exec (.replace w) s = .next (answered (plain .unknown) s.eru.tallies.refusals s))
      ∧ ∀ n, holds n → (∀ m, m < n → ¬ holds m) →
        let freed : State := { s with
          stu := { slots := s.stu.slots.set n Slot.empty, queue := s.stu.queue.filter (fun m => decide (m ≠ n)) }
          pm := { timers := s.pm.timers.set n SlotTimers.stopped } }
        let overlaps : Fin 8 → Prop := fun m => m ≠ n ∧ (s.slot m).state.live = true
          ∧ q.base < (s.slot m).base + (s.slot m).capacity ∧ (s.slot m).base < q.base + q.capacity
        let small : Verdict := { plain .small with
          deadlineTick := s.tb.partTime + BitVec.ofNat 32 freed.bufferLevel, bufferLevel := freed.bufferLevel,
          safeRate := safeRate s }
        ((s.slot n).rung = 0 → exec (.replace w) s = .next (answered (plain .badreq) counted s))
        ∧ (1 ≤ (s.slot n).rung → ¬ valid → exec (.replace w) s = .next (answered (plain .badreq) counted freed))
        ∧ (1 ≤ (s.slot n).rung → valid → ∀ m, overlaps m → (∀ j, j < m → ¬ overlaps j) →
          exec (.replace w) s = .next (answered { plain .overlap with slot := m.val } counted freed))
        ∧ (1 ≤ (s.slot n).rung → valid → (∀ m, ¬ overlaps m) → LadderLegal s.ladder →
          q.capacity < expectedBytes s.ladder 0 q.duration →
          exec (.replace w) s = .next (answered small counted freed)))

/-! ### The memory path and the slots -/

/-- A write none of whose strobed bytes falls in a record position or a request half, nor in a slot's window under a matching tag,
is forwarded and hands nothing to any block (R21, R23, R24). -/
def Obligations.PlainWriteIsForwardedAlone : Prop :=
  ∀ (s : State) (w : BusWrite), s.takesEvents = true →
    (∀ ab ∈ strobedBytes w, match s.areaAt ab.1 with
      | .plain | .report | .verdict _ | .outside => True
      | .window _ => s.fillMatches w.tag = false
      | .control _ | .request _ => False) →
    exec (.plainWrite w) s = .next { s with ports := { s.ports with write := some w } }

/-- A counted fill write moves marks, state, active time and the stall and check timers, and lands the slot when the fill mark
reaches the length; one that is not counted (wholly at or beyond a present length, on a landed slot, or under a tag that does not
match) changes nothing in the part (R23, R38 to R40, R61, R115, R116). That the mark longSilence gives the gap as 2,000 ms and is
cleared here is the model's way to hold R61's limit (DEDUCED, notes/assumptions/14.md). `low` and `fillEnd` are the lowest strobed
offset and the highest plus 1 (R24). -/
def Obligations.FillWriteMovesTheSlot : Prop :=
  ∀ (s : State) (n : Fin 8) (w : BusWrite), s.writeFallsIn w (.window n) = true →
    let x := s.slot n
    let low := runLow (strobedBytes w) - x.base
    let fillEnd := runEnd (strobedBytes w) - x.base
    let limited := min fillEnd (x.length.getD fillEnd)
    let gap := if x.longSilence = true then 2000 else min (s.tb.partTime - x.lastFill.getD x.issueTick).toNat 2000
    let stall : Timer := { start := s.tb.partTime, duration := s.setup.stallTime }
    let check : Timer := { start := s.tb.partTime, duration := s.setup.checkTime }
    let moved : Slot := { x with
      state := if x.state = .issued then .filling else x.state
      fillMark := max x.fillMark limited
      earlyUnderrun := if x.fillMark < limited then false else x.earlyUnderrun
      stalled := false
      activeMs := min (x.activeMs + min gap s.setup.gapLimit) (2 ^ 32 - 1)
      lastFill := some s.tb.partTime
      longSilence := false }
    let counted : State := { s with
      ports := { s.ports with write := some w }
      stu := { s.stu with slots := s.stu.slots.set n moved }
      pm := { timers := s.pm.timers.set n { s.timers n with
        stall := some stall, check := if x.state = .issued then some check else (s.timers n).check } } }
    (s.fillMatches w.tag = true → x.state.unlanded = true → (∀ len, x.length = some len → low < len) →
      (x.length ≠ some moved.fillMark → exec (.fillWrite w) s = .next counted)
      ∧ (x.length = some moved.fillMark → exec (.fillWrite w) s = .next (land counted n)))
    ∧ (s.fillMatches w.tag = false ∨ x.state.hasLanded = true ∨ (∃ len, x.length = some len ∧ len ≤ low) →
      exec (.fillWrite w) s = .next { s with ports := { s.ports with write := some w } })

/-- A landing of a slot that has not been read, in its six steps: LANDED with advice and stalled mark gone, queued by segment
number, timers stopped, a sample formed and gated or taken, and the landed tally (R13, R44, R51, R63 to R67, R74). -/
def Obligations.LandingTakesItsSteps : Prop :=
  ∀ (s : State) (n : Fin 8) (len : Nat), (s.slot n).length = some len → (s.slot n).drainMark = 0 →
    let x := s.slot n
    let t := land s n
    let rate := min (len * 8 / max 1 x.activeMs) 1048575
    let sample : Sample :=
      { segment := x.segment, rung := x.rung, bytes := len, activeMs := max 1 x.activeMs, rate := rate,
        landing := s.tb.partTime }
    let fast := updatedEstimate s.te.fast s.setup.shiftFast rate
    let slow := updatedEstimate s.te.slow s.setup.shiftSlow rate
    let congested := if s.te.congestion = .clear then fast * 256 < slow * s.setup.rhoIn
      else fast * 256 < slow * s.setup.rhoOut
    let after : Congestion := if congested then .congested else .clear
    let count := min (s.sc.warmupCount + 1) 255
    let landedTally := min (s.eru.tallies.landed + 1) (2 ^ 32 - 1)
    t.slot n = { x with state := .landed, advisedRung := none, stalled := false }
    ∧ (∀ m, m ≠ n → t.slot m = s.slot m ∧ t.timers m = s.timers m)
    ∧ t.timers n = { stall := none, check := none, grace := none }
    ∧ (∃ before after, s.stu.queue = before ++ after ∧ t.stu.queue = before ++ n :: after
      ∧ (∀ m ∈ before, (s.slot m).segment ≤ x.segment) ∧ ∀ m ∈ after.head?, x.segment < (s.slot m).segment)
    ∧ (len < s.setup.minSample →
      t = { s with
        stu := t.stu
        pm := t.pm
        eru := { s.eru with tallies := { s.eru.tallies with
          gated := min (s.eru.tallies.gated + 1) (2 ^ 32 - 1), landed := landedTally } } })
    ∧ (s.setup.minSample ≤ len →
      t = { s with
        stu := t.stu
        pm := t.pm
        te := { ring := (sample :: s.te.ring).take 8, fast := fast, slow := slow, congestion := after, valid := true }
        sc := { s.sc with
          warmupCount := count
          governor := if s.sc.governor = .warmup ∧ s.setup.warmupLength ≤ count then .adapting else s.sc.governor }
        eru := { s.eru with
          flags := if after = s.te.congestion then s.eru.flags else s.eru.flags ||| 0x010
          tallies := { s.eru.tallies with landed := landedTally } } })

/-- A slot that lands already read to drain mark m: the landing is that of the slot unread, and then rung k's dwell time gains
floor(d × m ÷ L) and the slot is DRAINING, or, at m = L, is consumed with the consumption underrun test (R44, R45, R48, R49). -/
def Obligations.LandingCreditsAnEarlierDrain : Prop :=
  ∀ (s : State) (n : Fin 8) (len : Nat) (h : (s.slot n).rung < 12), (s.slot n).length = some len →
    1 ≤ (s.slot n).drainMark →
    let x := s.slot n
    let m := x.drainMark
    let t := land (s.setSlot n { x with drainMark := 0 }) n
    let times := t.eru.tallies.dwellTime
    let credited := times.set x.rung (min (times[x.rung] + x.duration * m / len) (2 ^ 32 - 1))
    let underrun := x.segment < 2 ^ 32 - 1 ∧ ∃ k : Fin 8, k ≠ n ∧ (s.slot k).state.unlanded = true
      ∧ (s.slot k).segment = x.segment + 1
    (m ≠ len → land s n = { t with
      stu := { t.stu with slots := t.stu.slots.set n { t.slot n with drainMark := m, state := .draining } }
      eru := { t.eru with tallies := { t.eru.tallies with dwellTime := credited } } })
    ∧ (m = len → land s n = { t with
      stu := { slots := t.stu.slots.set n Slot.empty, queue := t.stu.queue.filter (fun k => decide (k ≠ n)) }
      eru := { t.eru with
        flags := if underrun then t.eru.flags ||| 0x004 else t.eru.flags
        tallies := { t.eru.tallies with
          dwellTime := credited
          underruns := if underrun then min (t.eru.tallies.underruns + 1) (2 ^ 32 - 1) else t.eru.tallies.underruns } } })

/-- A drain read on an unlanded slot moves its drain mark no further than the fill mark, gives no credit, and raises UNDERRUN once
for a stretch of reads past the fill mark; the data returned are the DRAM controller's (R17, R25, R46). -/
def Obligations.DrainReadOfAnUnlandedSlot : Prop :=
  ∀ (s : State) (n : Fin 8) (r : ReadResponse), s.readFallsIn r (.window n) = true → s.drainMatches r.tag = true →
    (s.slot n).state.unlanded = true →
    let x := s.slot n
    let drainEnd := r.addr.toNat + r.data.length - x.base
    let early := x.fillMark < drainEnd ∧ x.earlyUnderrun = false
    let moved : Slot := { x with
      drainMark := max x.drainMark (min drainEnd x.fillMark)
      earlyUnderrun := x.earlyUnderrun || decide (x.fillMark < drainEnd) }
    exec (.drainRead r) s = .next { s with
      ports := { s.ports with read := some { addr := r.addr, tag := r.tag, data := r.data, status := .ok } }
      stu := { s.stu with slots := s.stu.slots.set n moved }
      eru := { s.eru with
        flags := if early then s.eru.flags ||| 0x004 else s.eru.flags
        tallies := { s.eru.tallies with
          underruns := if early then min (s.eru.tallies.underruns + 1) (2 ^ 32 - 1) else s.eru.tallies.underruns } } }

/-- A drain read on a landed slot moves its drain mark to min(end, L), makes it DRAINING and credits its rung's dwell time; at the
length the slot is consumed, and UNDERRUN is raised exactly when an unlanded slot holds the next segment. A read that does not
pass the mark changes nothing (R47 to R49). That one wholly at or beyond L moves the mark to L, by R47's formula and against a
sentence of R43, is the model's choice (notes/assumptions/22.md). -/
def Obligations.DrainReadOfALandedSlot : Prop :=
  ∀ (s : State) (n : Fin 8) (r : ReadResponse) (len : Nat) (h : (s.slot n).rung < 12),
    s.readFallsIn r (.window n) = true → s.drainMatches r.tag = true → (s.slot n).state.hasLanded = true →
    (s.slot n).length = some len →
    let x := s.slot n
    let m := min (r.addr.toNat + r.data.length - x.base) len
    let times := s.eru.tallies.dwellTime
    let credit := x.duration * m / len - x.duration * x.drainMark / len
    let credited := times.set x.rung (min (times[x.rung] + credit) (2 ^ 32 - 1))
    let underrun := x.segment < 2 ^ 32 - 1 ∧ ∃ k : Fin 8, k ≠ n ∧ (s.slot k).state.unlanded = true
      ∧ (s.slot k).segment = x.segment + 1
    let answered : State := { s with
      ports := { s.ports with read := some { addr := r.addr, tag := r.tag, data := r.data, status := .ok } } }
    (m ≤ x.drainMark → exec (.drainRead r) s = .next answered)
    ∧ (x.drainMark < m → m < len → exec (.drainRead r) s = .next { answered with
      stu := { s.stu with slots := s.stu.slots.set n { x with drainMark := m, state := .draining } }
      eru := { s.eru with tallies := { s.eru.tallies with dwellTime := credited } } })
    ∧ (x.drainMark < m → m = len → exec (.drainRead r) s = .next { answered with
      stu := { slots := s.stu.slots.set n Slot.empty, queue := s.stu.queue.filter (fun k => decide (k ≠ n)) }
      pm := { timers := s.pm.timers.set n SlotTimers.stopped }
      eru := { s.eru with
        flags := if underrun then s.eru.flags ||| 0x004 else s.eru.flags
        tallies := { s.eru.tallies with
          dwellTime := credited
          underruns := if underrun then min (s.eru.tallies.underruns + 1) (2 ^ 32 - 1) else s.eru.tallies.underruns } } })

/-- A read of the header line takes a new snapshot, and every report byte returned comes from it; a report read that touches no
header byte returns the standing snapshot and takes none (R29, R153). The same holds of the report bytes of a read that covers
bytes of other kinds too, wherever they lie in it (R31). -/
def Obligations.HeaderLineReadTakesASnapshot : Prop :=
  (∀ (s : State) (r : ReadResponse), s.readFallsIn r .report = true →
    s.ccu.adoptedSetup.isSome = true ∨ lowerEstimate s = 0 →
    let offset := r.addr.toNat % 4096 - 0x400
    let returned : List Byte → State := fun snapshot =>
      let data := (snapshot.drop offset).take r.data.length
      { s with
        ports := { s.ports with read := some { addr := r.addr, tag := r.tag, data := data, status := .ok } }
        eru := { s.eru with snapshot := snapshot } }
    s.eru.snapshot.length = 1024 →
      (offset < 0x40 → exec (.headerLineRead r) s = .next (returned (reportBytes s)))
      ∧ (0x40 ≤ offset → exec (.headerLineRead r) s = .next (returned s.eru.snapshot)))
    ∧ ∀ (s : State) (r : ReadResponse) (c : Instr), readOf c = some r → s.takesEvents = true → r.status = .ok →
      r.spansReset = false →
      let offset : Nat → Nat := fun i => (r.addr.toNat + i) % 4096
      let touchesHeader := ∃ i, i < r.data.length ∧ s.inPage (r.addr.toNat + i) = true ∧ 0x400 ≤ offset i ∧ offset i < 0x440
      ∃ t d, exec c s = .next t ∧ t.ports.read = some { addr := r.addr, tag := r.tag, data := d, status := .ok }
        ∧ (touchesHeader → t.eru.snapshot = reportBytes s) ∧ (¬ touchesHeader → t.eru.snapshot = s.eru.snapshot)
        ∧ ∀ i, i < r.data.length → s.inPage (r.addr.toNat + i) = true → 0x400 ≤ offset i → offset i < 0x800 →
          d[i]? = some (t.eru.snapshot.getD (offset i - 0x400) 0)

/-- What the report's bytes are: the fields of section 10.2.2 at their offsets, the three notes among them, with 0 in the fields
of an absent note (R5, R140, R144) and at every offset that no row covers (R152, R156). Every value is below 256 to the power of
its width in any state that the part reaches. -/
def Obligations.ReportShowsTheState : Prop :=
  ∀ s : State, s.stu.queue.length ≤ 8 → s.te.ring.length ≤ 8 →
    let field : Nat → Nat → Nat := fun offset width =>
      ((List.range width).map (fun i => ((reportBytes s).getD (offset - 0x400 + i) 0).toNat * 256 ^ i)).sum
    let shows : Nat → Nat → Nat → Prop := fun offset width value => field offset width = value % 256 ^ width
    let mark : Bool → Nat := fun b => if b = true then 1 else 0
    shows 0x400 1 0x47 ∧ shows 0x401 1 46 ∧ shows 0x402 1 s.eru.revision.toNat ∧ shows 0x404 1 8 ∧ shows 0x405 1 12
      ∧ shows 0x406 1 16 ∧ shows 0x407 1 8
      ∧ shows 0x440 1 (governorValue s.sc.governor) ∧ shows 0x441 1 (rememberedValue s.sc.remembered)
      ∧ shows 0x442 1 s.ccu.counter ∧ shows 0x443 1 (mark s.evt)
      ∧ (∀ p : Position, shows (0x444 + positionValue p) 1 (s.position p).adoptedStamp.toNat
        ∧ shows (0x448 + positionValue p) 1 (s.position p).rejectedStamp.toNat
        ∧ shows (0x44C + positionValue p) 1 (mark (s.position p).pending))
      ∧ (s.ccu.rejectionNote = none → shows 0x450 3 0)
      ∧ (∀ note, s.ccu.rejectionNote = some note → shows 0x450 1 (positionValue note.position)
        ∧ shows 0x451 1 (rejectReasonValue note.reason) ∧ shows 0x452 1 note.stamp.toNat)
      ∧ (s.ccu.clampNote = none → shows 0x454 3 0)
      ∧ (∀ note, s.ccu.clampNote = some note → shows 0x454 1 (positionValue note.position)
        ∧ shows 0x455 1 note.count ∧ shows 0x456 1 note.first)
      ∧ (s.ccu.directiveNote = none → shows 0x458 3 0)
      ∧ (∀ note, s.ccu.directiveNote = some note → shows 0x458 1 note.code.toNat
        ∧ shows 0x459 1 note.entry ∧ shows 0x45A 1 (directiveReasonValue note.reason))
      ∧ shows 0x45C 2 s.eru.flags.toNat ∧ shows 0x45E 2 s.eru.enables.toNat ∧ shows 0x460 1 s.stu.queue.length
      ∧ (∀ q : Nat, q < 8 → shows (0x461 + q) 1 ((s.stu.queue.map (fun n => n.val)).getD q 0))
      ∧ shows 0x4C0 1 s.vu.currentRung ∧ shows 0x4C1 1 s.vu.dwell ∧ shows 0x4C2 1 (congestionValue s.te.congestion)
      ∧ shows 0x4C3 1 (mark s.te.valid) ∧ shows 0x4C4 1 s.te.ring.length ∧ shows 0x4C5 1 s.sc.warmupCount
      ∧ shows 0x4C8 4 s.te.fast ∧ shows 0x4CC 4 s.te.slow ∧ shows 0x4D0 4 (safeRate s) ∧ shows 0x4D4 4 s.bufferLevel
      ∧ shows 0x4D8 4 s.tb.partTime.toNat
      ∧ (∀ n : Fin 8, shows (0x500 + 32 * n.val) 1 (slotStateValue (s.slot n).state)
        ∧ shows (0x501 + 32 * n.val) 1 (s.slot n).rung ∧ shows (0x502 + 32 * n.val) 1 ((s.slot n).advisedRung.getD 0)
        ∧ shows (0x503 + 32 * n.val) 1 (mark (s.slot n).advisedRung.isSome + 2 * mark (s.slot n).stalled
          + 4 * mark (s.slot n).overfill + 8 * mark (s.slot n).earlyUnderrun)
        ∧ shows (0x504 + 32 * n.val) 2 (s.slot n).duration ∧ shows (0x506 + 32 * n.val) 2 0
        ∧ shows (0x508 + 32 * n.val) 4 (s.slot n).segment
        ∧ shows (0x50C + 32 * n.val) 4 ((s.slot n).length.getD 0) ∧ shows (0x510 + 32 * n.val) 4 (s.slot n).fillMark
        ∧ shows (0x514 + 32 * n.val) 4 (s.slot n).drainMark ∧ shows (0x518 + 32 * n.val) 4 (s.slot n).expected
        ∧ shows (0x51C + 32 * n.val) 4 (s.slot n).issueTick.toNat)
      ∧ (∀ i : Nat, i < 8 →
        shows (0x600 + 16 * i) 4 ((s.te.ring.map (fun x => x.segment)).getD i 0)
        ∧ shows (0x604 + 16 * i) 4 ((s.te.ring.map (fun x => x.bytes)).getD i 0)
        ∧ shows (0x608 + 16 * i) 4 ((s.te.ring.map (fun x => x.activeMs)).getD i 0)
        ∧ shows (0x60C + 16 * i) 4 ((s.te.ring.map (fun x => x.landing.toNat)).getD i 0)
        ∧ shows (0x680 + 4 * i) 3 ((s.te.ring.map (fun x => x.rate)).getD i 0)
        ∧ shows (0x683 + 4 * i) 1 ((s.te.ring.map (fun x => x.rung)).getD i 0))
      ∧ shows 0x6A0 4 s.eru.tallies.landed ∧ shows 0x6A4 4 s.eru.tallies.gated ∧ shows 0x6A8 4 s.eru.tallies.underruns
      ∧ shows 0x6AC 4 s.eru.tallies.stalls ∧ shows 0x6B0 4 s.eru.tallies.advices ∧ shows 0x6B4 4 s.eru.tallies.unheeded
      ∧ shows 0x6B8 4 s.eru.tallies.upSwitches ∧ shows 0x6BC 4 s.eru.tallies.downSwitches
      ∧ shows 0x6C0 4 s.eru.tallies.holds ∧ shows 0x6C4 4 s.eru.tallies.rejections ∧ shows 0x6C8 4 s.eru.tallies.refusals
      ∧ (∀ k : Fin 12, shows (0x6CC + 4 * k.val) 4 s.eru.tallies.dwellTime[k])
      ∧ ∀ i : Nat, (i = 0x403 ∨ (0x408 ≤ i ∧ i < 0x440) ∨ i = 0x453 ∨ i = 0x457 ∨ i = 0x45B ∨ (0x469 ≤ i ∧ i < 0x4C0)
        ∨ (0x4C6 ≤ i ∧ i < 0x4C8) ∨ (0x4DC ≤ i ∧ i < 0x500) ∨ (0x6FC ≤ i ∧ i < 0x800)) → shows i 1 0

/-- A read of a ticket's verdict half returns the fields of its latched verdict at the offsets of section 10.2.1, and 0 in every
byte while none is latched; nothing in the part changes but what was returned (R30, R94). In a read that covers bytes of other kinds
too, each byte of a verdict half is the one that a read of the whole half by itself returns there (R31). -/
def Obligations.VerdictHalfReadsTheVerdict : Prop :=
  (∀ (s : State) (r : ReadResponse) (c : Instr) (k : Fin 16), readOf c = some r → s.readFallsIn r (.verdict k) = true →
    ∃ data : List Byte, exec c s = .next { s with
        ports := { s.ports with read := some { addr := r.addr, tag := r.tag, data := data, status := .ok } } }
      ∧ data.length = r.data.length
      ∧ ((s.ticket k).verdict = none → ∀ b ∈ data, b = 0)
      ∧ ∀ v, (s.ticket k).verdict = some v → r.addr.toNat % 64 = 32 → r.data.length = 32 →
        ∀ (hc : verdictCodeValue v.code < 256) (hr : v.rung < 256) (hs : v.slot < 256) (hh : v.holdUnits < 256),
        data.take 8 = [BitVec.ofNatLT (verdictCodeValue v.code) hc, v.echo, BitVec.ofNatLT v.rung hr,
          BitVec.ofNatLT v.slot hs, BitVec.ofNatLT v.holdUnits hh, 0, 0, 0]
        ∧ (v.expected < 2 ^ 32 →
          ((List.range 4).map (fun i => (data.getD (8 + i) 0).toNat * 256 ^ i)).sum = v.expected)
        ∧ ((List.range 4).map (fun i => (data.getD (12 + i) 0).toNat * 256 ^ i)).sum = v.decisionTick.toNat
        ∧ ((List.range 4).map (fun i => (data.getD (16 + i) 0).toNat * 256 ^ i)).sum = v.deadlineTick.toNat
        ∧ (v.bufferLevel < 2 ^ 32 →
          ((List.range 4).map (fun i => (data.getD (20 + i) 0).toNat * 256 ^ i)).sum = v.bufferLevel)
        ∧ (v.safeRate < 2 ^ 32 →
          ((List.range 4).map (fun i => (data.getD (24 + i) 0).toNat * 256 ^ i)).sum = v.safeRate)
        ∧ data.drop 28 = [0, 0, 0, 0])
    ∧ ∀ (s : State) (r whole : ReadResponse) (c c' : Instr) (k : Fin 16), readOf c = some r → readOf c' = some whole →
      s.takesEvents = true → r.status = .ok → r.spansReset = false →
      s.readFallsIn whole (.verdict k) = true → whole.addr.toNat % 64 = 32 → whole.data.length = 32 →
      ∃ t t' d d', exec c s = .next t ∧ exec c' s = .next t'
        ∧ t.ports.read = some { addr := r.addr, tag := r.tag, data := d, status := .ok }
        ∧ t'.ports.read = some { addr := whole.addr, tag := whole.tag, data := d', status := .ok }
        ∧ ∀ i j, i < r.data.length → j < 32 → r.addr.toNat + i = whole.addr.toNat + j → d[i]? = d'[j]?

/-- Substitution changes data bytes alone, and only in the report area and the verdict halves: address, tag, length and status pass
unchanged, and every other byte is the DRAM controller's, request halves, control area and windows included (R17, R22, R31). A
response with status ERROR, or received in part during reset, is returned as it came and forms no run (R27, R32). -/
def Obligations.SubstitutionStaysInItsAreas : Prop :=
  (∀ (s t : State) (r : ReadResponse) (c : Instr), readOf c = some r → exec c s = .next t →
    ∃ d : List Byte, t.ports.read = some { addr := r.addr, tag := r.tag, data := d, status := r.status }
      ∧ d.length = r.data.length
      ∧ ∀ i : Nat, s.inPage (r.addr.toNat + i) = false
          ∨ (r.addr.toNat + i) % 4096 < 0x400 ∨ (0x800 ≤ (r.addr.toNat + i) % 4096 ∧ (r.addr.toNat + i) % 64 < 32)
          ∨ (0x800 ≤ (r.addr.toNat + i) % 4096 ∧ (r.addr.toNat + i) % 4096 < 0xC00) →
        d[i]? = r.data[i]?)
    ∧ ∀ (s : State) (r : ReadResponse) (c : Instr), readOf c = some r → s.takesEvents = true →
      r.status = .error ∨ r.spansReset = true →
      exec c s = .next { s with
        ports := { s.ports with read := some { addr := r.addr, tag := r.tag, data := r.data, status := r.status } } }

/-- Every write is forwarded downstream unchanged, and the status the DRAM controller answers it with takes back nothing that the
part took from it (R17, R28). -/
def Obligations.WriteStatusTakesNothingBack : Prop :=
  ∀ (c c' : Instr) (w : BusWrite) (status : Status) (s : State), writeOf c = some w →
    writeOf c' = some { w with status := status } →
    ∃ t : State, exec c s = .next { t with ports := { s.ports with write := some w } }
      ∧ exec c' s = .next { t with ports := { s.ports with write := some { w with status := status } } }

/-- A transaction is split at the edge of a unit, and each part is complete before the next (R19, R26). A fill over the edge of
two windows is two fill observations, the lower slot's first. Any write whose lower part falls in one unit and whose next byte
does not is that part written by itself, and then the rest written on the state that it left: so the record positions of one write
are evaluated in ascending order (R4), and the tickets that it closes are decided in ascending order. A read over the edge of a
window is two reads. -/
def Obligations.BurstIsSplitAtTheWindowEdge : Prop :=
  (∀ (s : State) (w : BusWrite) (m n : Fin 8) (lower upper : List (Nat × Byte)), s.takesEvents = true →
    s.fillMatches w.tag = true → strobedBytes w = lower ++ upper → m ≠ n →
    s.allFallIn lower (.window m) = true → s.allFallIn upper (.window n) = true →
    exec (.fillWrite w) s = .next
      (fillObservation
        (fillObservation { s with ports := { s.ports with write := some w } } m
          (runLow lower - (s.slot m).base) (runEnd lower - (s.slot m).base))
        n (runLow upper - (s.slot n).base) (runEnd upper - (s.slot n).base)))
    ∧ (∀ (s t : State) (c c₁ c₂ : Instr) (w w₁ w₂ : BusWrite) (area : Area), writeOf c = some w → writeOf c₁ = some w₁ →
      writeOf c₂ = some w₂ → w₁.tag = w.tag → w₂.tag = w.tag → strobedBytes w = strobedBytes w₁ ++ strobedBytes w₂ →
      s.writeFallsIn w₁ area = true → (∀ ab ∈ (strobedBytes w₂).head?, s.areaAt ab.1 ≠ area) →
      exec c₁ s = .next t → t.takesEvents = true → t.fillMatches w.tag = s.fillMatches w.tag →
      ∃ u, exec c₂ t = .next u ∧ exec c s = .next { u with ports := { s.ports with write := some w } })
    ∧ ∀ (s t : State) (c c₁ c₂ : Instr) (r r₁ r₂ : ReadResponse) (n : Fin 8), readOf c = some r → readOf c₁ = some r₁ →
      readOf c₂ = some r₂ → r₁.tag = r.tag → r₂.tag = r.tag → r.data = r₁.data ++ r₂.data → r₁.addr = r.addr →
      r₂.addr.toNat = r.addr.toNat + r₁.data.length → r.status = .ok → r₂.status = .ok → r.spansReset = false →
      r₂.spansReset = false → s.readFallsIn r₁ (.window n) = true →
      (r₂.data ≠ [] → s.areaAt r₂.addr.toNat ≠ .window n) →
      (∀ i, i < r₂.data.length → s.inPage (r₂.addr.toNat + i) = false) → exec c₁ s = .next t →
      ∃ u, exec c₂ t = .next u ∧ exec c s = .next { u with
        ports := { s.ports with read := some { addr := r.addr, tag := r.tag, data := r.data, status := .ok } } }

/-- The page base and the other tie-offs change at the edges of RST alone, and part time and the prescaler count at those, TICK and
REFCLK_PERIOD alone: RESTART keeps them (R20, R33). -/
def Obligations.BaseAndTimeAreKept : Prop :=
  ∀ (c : Instr) (s t : State), exec c s = .next t → isReset c = false →
    t.pif = s.pif ∧ t.tb.prescaler = s.tb.prescaler ∧ t.eru.revision = s.eru.revision
      ∧ (c ≠ .tick → c ≠ .refclkPeriod → t.tb = s.tb)

/-! ### Arithmetic -/

/-- The effective rate e_k = max(1, r_k + 16 × t_k), in 1..67,567 for every rung of a legal ladder, both ends reached; equal to the
nominal rate where the trim is 0, so that a ladder of zero trims strictly rises in it, while other legal ladders need not (R80). -/
def Obligations.EffectiveRatesAreInRange : Prop :=
  (∀ r : Rung, (effectiveRate r : Int) = max 1 ((r.nominal : Int) + 16 * r.trim))
    ∧ (∀ l : Ladder, LadderLegal l → ∀ r ∈ l.rungs, 1 ≤ effectiveRate r ∧ effectiveRate r ≤ 67567)
    ∧ effectiveRate { nominal := 65535, trim := 127 } = 67567 ∧ effectiveRate { nominal := 64, trim := -4 } = 1
    ∧ (∀ r : Rung, 1 ≤ r.nominal → r.trim = 0 → effectiveRate r = r.nominal)
    ∧ (∀ l : Ladder, LadderLegal l → (∀ r ∈ l.rungs, r.trim = 0) →
      l.rungs.Pairwise (fun a b => effectiveRate a < effectiveRate b))
    ∧ LadderLegal { rungs := [{ nominal := 64, trim := 100 }, { nominal := 65, trim := -4 }] }
    ∧ effectiveRate { nominal := 65, trim := -4 } < effectiveRate { nominal := 64, trim := 100 }

/-- The candidate for a rate is the highest rung whose effective rate is at or below it, whatever the rates of the rungs below that
one, or 0 if there is none; it never falls as the rate rises, its ends are fixed, and on a legal ladder a rate of 67,567 or more
gives N − 1 (R86). -/
def Obligations.CandidateIsTheHighestWithinTheRate : Prop :=
  ∀ (l : Ladder) (rate : Nat), 1 ≤ rungCount l →
    let c := candidate l rate
    let within : Nat → Prop := fun k => k < rungCount l ∧ effectiveRate (ladderRung l k) ≤ rate
    ((∃ k, within k) → within c ∧ ∀ k, within k → k ≤ c)
      ∧ ((∀ k, ¬ within k) → c = 0)
      ∧ (∀ higher, rate ≤ higher → c ≤ candidate l higher)
      ∧ candidate l 0 = 0
      ∧ ((∀ k, k < rungCount l → effectiveRate (ladderRung l k) ≤ rate) → c = rungCount l - 1)
      ∧ (rungCount l = 1 → c = 0)
      ∧ (LadderLegal l → 67567 ≤ rate → c = rungCount l - 1)

/-- The candidate below rung j for a limit is the highest rung below j whose effective rate is at or below the limit, and 0 if
there is none or j is 0; it lies below j when j is above 0 (R87). -/
def Obligations.CandidateBelowStaysBelow : Prop :=
  ∀ (l : Ladder) (limit j : Nat),
    let c := candidateBelow l limit j
    let within : Nat → Prop := fun k => k < j ∧ effectiveRate (ladderRung l k) ≤ limit
    ((∃ k, within k) → within c ∧ ∀ k, within k → k ≤ c) ∧ ((∀ k, ¬ within k) → c = 0)
      ∧ (j = 0 → c = 0) ∧ (0 < j → c < j) ∧ (limit = 0 → c = 0)

/-- An update with shift a adds floor((d + 2^(a−1)) ÷ 2^a) for d the sample less the estimate, leaves the estimate between its old
value and the sample, inclusive, and stops exactly where d lies in −h..h − 1 for h = 2^(a−1) (R67). -/
def Obligations.EstimateMovesTowardTheSample : Prop :=
  ∀ e a x : Nat, 1 ≤ a →
    let d : Int := (x : Int) - e
    let h : Int := 2 ^ (a - 1)
    (updatedEstimate e a x : Int) = e + ⌊((d + h : Int) : ℚ) / 2 ^ a⌋
      ∧ min e x ≤ updatedEstimate e a x ∧ updatedEstimate e a x ≤ max e x
      ∧ (updatedEstimate e a x = e ↔ -h ≤ d ∧ d ≤ h - 1)

/-- The safe rate is floor(min(E_f, E_s) × σ_cur ÷ 256) for the factor of the congestion state; entering congestion never raises it,
and with estimates in range it lies in 0..1,048,575 (R76). -/
def Obligations.SafeRateFollowsTheLowerEstimate : Prop :=
  ∀ (s : State) (u : Setup), s.ccu.adoptedSetup = some u → SettingsInRange u →
    let lower := min s.te.fast s.te.slow
    (s.te.congestion = .clear → safeRate s = lower * u.sigma / 256)
      ∧ (s.te.congestion = .congested → safeRate s = lower * u.sigmaCongested / 256)
      ∧ safeRate { s with te := { s.te with congestion := .congested } }
        ≤ safeRate { s with te := { s.te with congestion := .clear } }
      ∧ safeRate s ≤ lower ∧ (s.te.fast ≤ 1048575 → safeRate s ≤ 1048575)

/-- The buffer level is the sum over the queue of d − floor(d × m ÷ L) and lies in 0..160,000; reading a queued slot further lowers
it by exactly the credit given (R49, R52). -/
def Obligations.BufferLevelFollowsTheDrain : Prop :=
  ∀ s : State, SlotTableLegal s →
    s.bufferLevel = (s.stu.queue.map (fun n =>
        (s.slot n).duration - (s.slot n).duration * (s.slot n).drainMark / (s.slot n).length.getD 0)).sum
      ∧ s.bufferLevel ≤ 160000
      ∧ ∀ (n : Fin 8) (len m : Nat), n ∈ s.stu.queue → (s.slot n).length = some len → (s.slot n).drainMark ≤ m → m ≤ len →
        let credit := (s.slot n).duration * m / len - (s.slot n).duration * (s.slot n).drainMark / len
        (s.setSlot n { s.slot n with drainMark := m }).bufferLevel + credit = s.bufferLevel

/-- No tally falls at a command that is neither a reset, CLEAR_TALLIES nor a write of a byte in the DIRECTIVE position (whose list
may hold either), and none passes 2^32 − 1 (R150). -/
def Obligations.TalliesOnlyGrow : Prop :=
  ∀ (c : Instr) (s t : State), TalliesInRange s.eru.tallies → exec c s = .next t →
    (∀ w, writeOf c = some w → ∀ ab ∈ strobedBytes w, s.areaAt ab.1 ≠ .control .directive) →
    c ≠ .hardwareReset → c ≠ .restart → c ≠ .clearTallies →
    s.eru.tallies.landed ≤ t.eru.tallies.landed ∧ s.eru.tallies.gated ≤ t.eru.tallies.gated
      ∧ s.eru.tallies.underruns ≤ t.eru.tallies.underruns ∧ s.eru.tallies.stalls ≤ t.eru.tallies.stalls
      ∧ s.eru.tallies.advices ≤ t.eru.tallies.advices ∧ s.eru.tallies.unheeded ≤ t.eru.tallies.unheeded
      ∧ s.eru.tallies.upSwitches ≤ t.eru.tallies.upSwitches ∧ s.eru.tallies.downSwitches ≤ t.eru.tallies.downSwitches
      ∧ s.eru.tallies.holds ≤ t.eru.tallies.holds ∧ s.eru.tallies.rejections ≤ t.eru.tallies.rejections
      ∧ s.eru.tallies.refusals ≤ t.eru.tallies.refusals
      ∧ (∀ k : Fin 12, s.eru.tallies.dwellTime[k] ≤ t.eru.tallies.dwellTime[k]) ∧ TalliesInRange t.eru.tallies

/-! ### The laws that every step keeps -/

/-- The reset state keeps every law of the part. -/
def Obligations.ResetKeepsTheLaws : Prop :=
  BuffersCanonical State.reset ∧ SessionLegal State.reset ∧ SlotTableLegal State.reset ∧ SlotsAgree State.reset

/-- Every step keeps the byte buffers canonical and the snapshot at 1,024 bytes, from any state in which they are (R89, R131,
R145). -/
def Obligations.StepsKeepTheBuffers : Prop :=
  ∀ s t : State, BuffersCanonical s → step s = .next t → BuffersCanonical t

/-- Every step keeps the session state, the configuration, the estimates and the counts as Chapters 1, 4, 8 and 9 bound them, from
any state in which they are (R1, R13, R59, R67, R79, R89, R131, R139, R145). -/
def Obligations.StepsKeepTheSession : Prop :=
  ∀ s t : State, SessionLegal s → step s = .next t → SessionLegal t

/-- Every step keeps the slot table and the playout queue as Chapter 3 lays down, from any state in which they are: no two live slots
share a segment or a window, and the queue holds exactly the landed slots in ascending segment order (R35, R37, R38, R51). -/
def Obligations.StepsKeepTheSlotTable : Prop :=
  ∀ s t : State, SlotTableLegal s → step s = .next t → SlotTableLegal t

/-- Every step keeps live slots in agreement with the configuration in force, from any state whose session is legal: windows inside
the bounds and off the governor page, rungs and expected bytes those of the ladder (R37, R82, R85, R99, R141). -/
def Obligations.StepsKeepSlotsInAgreement : Prop :=
  ∀ s t : State, SessionLegal s → SlotsAgree s → step s = .next t → SlotsAgree t
end

