-- ==== Sys2Proof/Laws/State.lean ====
section
/-! SUPPORT. What each update of the state leaves alone and what it sets: one lemma per field per update, true by `rfl`, so that
no proof unfolds a record update. -/

namespace Sys2Proof.Machine

/-! ### Slots -/

@[simp] theorem State.setSlot_pif (s : State) (n : Fin 8) (x : Slot) : (s.setSlot n x).pif = s.pif := rfl
@[simp] theorem State.setSlot_ports (s : State) (n : Fin 8) (x : Slot) : (s.setSlot n x).ports = s.ports := rfl
@[simp] theorem State.setSlot_tb (s : State) (n : Fin 8) (x : Slot) : (s.setSlot n x).tb = s.tb := rfl
@[simp] theorem State.setSlot_ccu (s : State) (n : Fin 8) (x : Slot) : (s.setSlot n x).ccu = s.ccu := rfl
@[simp] theorem State.setSlot_sc (s : State) (n : Fin 8) (x : Slot) : (s.setSlot n x).sc = s.sc := rfl
@[simp] theorem State.setSlot_te (s : State) (n : Fin 8) (x : Slot) : (s.setSlot n x).te = s.te := rfl
@[simp] theorem State.setSlot_vu (s : State) (n : Fin 8) (x : Slot) : (s.setSlot n x).vu = s.vu := rfl
@[simp] theorem State.setSlot_pm (s : State) (n : Fin 8) (x : Slot) : (s.setSlot n x).pm = s.pm := rfl
@[simp] theorem State.setSlot_eru (s : State) (n : Fin 8) (x : Slot) : (s.setSlot n x).eru = s.eru := rfl
@[simp] theorem State.setSlot_freeCount (s : State) (n : Fin 8) (x : Slot) : (s.setSlot n x).freeCount = s.freeCount := rfl
@[simp] theorem State.setSlot_pending (s : State) (n : Fin 8) (x : Slot) : (s.setSlot n x).pending = s.pending := rfl
@[simp] theorem State.setSlot_queue (s : State) (n : Fin 8) (x : Slot) : (s.setSlot n x).stu.queue = s.stu.queue := rfl
@[simp] theorem State.setSlot_slots (s : State) (n : Fin 8) (x : Slot) :
    (s.setSlot n x).stu.slots = s.stu.slots.set n x := rfl
@[simp] theorem State.setSlot_timers (s : State) (n m : Fin 8) (x : Slot) : (s.setSlot n x).timers m = s.timers m := rfl
@[simp] theorem State.setSlot_ticket (s : State) (n : Fin 8) (x : Slot) (k : Fin 16) :
    (s.setSlot n x).ticket k = s.ticket k := rfl
@[simp] theorem State.setSlot_setup (s : State) (n : Fin 8) (x : Slot) : (s.setSlot n x).setup = s.setup := rfl
@[simp] theorem State.setSlot_now (s : State) (n : Fin 8) (x : Slot) : (s.setSlot n x).now = s.now := rfl
@[simp] theorem State.slot_setSlot_same (s : State) (n : Fin 8) (x : Slot) : (s.setSlot n x).slot n = x := by
  simp [State.slot, State.setSlot]
theorem State.slot_setSlot (s : State) (n m : Fin 8) (x : Slot) :
    (s.setSlot n x).slot m = if m = n then x else s.slot m := by
  by_cases h : m = n
  · subst h; simp
  · simp [State.slot, State.setSlot, h, Fin.val_inj, Ne.symm h]
@[simp] theorem State.slot_setSlot_other (s : State) (n m : Fin 8) (x : Slot) (h : m ≠ n) :
    (s.setSlot n x).slot m = s.slot m := by simp [State.slot_setSlot, h]
@[simp] theorem State.setSlot_setSlot (s : State) (n : Fin 8) (x y : Slot) : (s.setSlot n x).setSlot n y = s.setSlot n y := by
  simp [State.setSlot]

/-! ### The playout queue -/

@[simp] theorem State.setQueue_pif (s : State) (q : List (Fin 8)) : (s.setQueue q).pif = s.pif := rfl
@[simp] theorem State.setQueue_ports (s : State) (q : List (Fin 8)) : (s.setQueue q).ports = s.ports := rfl
@[simp] theorem State.setQueue_tb (s : State) (q : List (Fin 8)) : (s.setQueue q).tb = s.tb := rfl
@[simp] theorem State.setQueue_ccu (s : State) (q : List (Fin 8)) : (s.setQueue q).ccu = s.ccu := rfl
@[simp] theorem State.setQueue_sc (s : State) (q : List (Fin 8)) : (s.setQueue q).sc = s.sc := rfl
@[simp] theorem State.setQueue_te (s : State) (q : List (Fin 8)) : (s.setQueue q).te = s.te := rfl
@[simp] theorem State.setQueue_vu (s : State) (q : List (Fin 8)) : (s.setQueue q).vu = s.vu := rfl
@[simp] theorem State.setQueue_pm (s : State) (q : List (Fin 8)) : (s.setQueue q).pm = s.pm := rfl
@[simp] theorem State.setQueue_eru (s : State) (q : List (Fin 8)) : (s.setQueue q).eru = s.eru := rfl
@[simp] theorem State.setQueue_freeCount (s : State) (q : List (Fin 8)) : (s.setQueue q).freeCount = s.freeCount := rfl
@[simp] theorem State.setQueue_pending (s : State) (q : List (Fin 8)) : (s.setQueue q).pending = s.pending := rfl
@[simp] theorem State.setQueue_queue (s : State) (q : List (Fin 8)) : (s.setQueue q).stu.queue = q := rfl
@[simp] theorem State.setQueue_slots (s : State) (q : List (Fin 8)) : (s.setQueue q).stu.slots = s.stu.slots := rfl
@[simp] theorem State.setQueue_slot (s : State) (q : List (Fin 8)) (n : Fin 8) : (s.setQueue q).slot n = s.slot n := rfl
@[simp] theorem State.setQueue_timers (s : State) (q : List (Fin 8)) (n : Fin 8) : (s.setQueue q).timers n = s.timers n := rfl
@[simp] theorem State.setQueue_ticket (s : State) (q : List (Fin 8)) (k : Fin 16) : (s.setQueue q).ticket k = s.ticket k := rfl
@[simp] theorem State.setQueue_setup (s : State) (q : List (Fin 8)) : (s.setQueue q).setup = s.setup := rfl
@[simp] theorem State.setQueue_now (s : State) (q : List (Fin 8)) : (s.setQueue q).now = s.now := rfl

/-! ### Timers -/

@[simp] theorem State.setTimers_pif (s : State) (n : Fin 8) (x : SlotTimers) : (s.setTimers n x).pif = s.pif := rfl
@[simp] theorem State.setTimers_ports (s : State) (n : Fin 8) (x : SlotTimers) : (s.setTimers n x).ports = s.ports := rfl
@[simp] theorem State.setTimers_tb (s : State) (n : Fin 8) (x : SlotTimers) : (s.setTimers n x).tb = s.tb := rfl
@[simp] theorem State.setTimers_ccu (s : State) (n : Fin 8) (x : SlotTimers) : (s.setTimers n x).ccu = s.ccu := rfl
@[simp] theorem State.setTimers_sc (s : State) (n : Fin 8) (x : SlotTimers) : (s.setTimers n x).sc = s.sc := rfl
@[simp] theorem State.setTimers_stu (s : State) (n : Fin 8) (x : SlotTimers) : (s.setTimers n x).stu = s.stu := rfl
@[simp] theorem State.setTimers_te (s : State) (n : Fin 8) (x : SlotTimers) : (s.setTimers n x).te = s.te := rfl
@[simp] theorem State.setTimers_vu (s : State) (n : Fin 8) (x : SlotTimers) : (s.setTimers n x).vu = s.vu := rfl
@[simp] theorem State.setTimers_eru (s : State) (n : Fin 8) (x : SlotTimers) : (s.setTimers n x).eru = s.eru := rfl
@[simp] theorem State.setTimers_freeCount (s : State) (n : Fin 8) (x : SlotTimers) : (s.setTimers n x).freeCount = s.freeCount := rfl
@[simp] theorem State.setTimers_pending (s : State) (n : Fin 8) (x : SlotTimers) : (s.setTimers n x).pending = s.pending := rfl
@[simp] theorem State.setTimers_slot (s : State) (n m : Fin 8) (x : SlotTimers) : (s.setTimers n x).slot m = s.slot m := rfl
@[simp] theorem State.setTimers_ticket (s : State) (n : Fin 8) (x : SlotTimers) (k : Fin 16) :
    (s.setTimers n x).ticket k = s.ticket k := rfl
@[simp] theorem State.setTimers_setup (s : State) (n : Fin 8) (x : SlotTimers) : (s.setTimers n x).setup = s.setup := rfl
@[simp] theorem State.setTimers_now (s : State) (n : Fin 8) (x : SlotTimers) : (s.setTimers n x).now = s.now := rfl
@[simp] theorem State.setTimers_all (s : State) (n : Fin 8) (x : SlotTimers) :
    (s.setTimers n x).pm.timers = s.pm.timers.set n x := rfl
@[simp] theorem State.timers_setTimers_same (s : State) (n : Fin 8) (x : SlotTimers) : (s.setTimers n x).timers n = x := by
  simp [State.timers, State.setTimers]
theorem State.timers_setTimers (s : State) (n m : Fin 8) (x : SlotTimers) :
    (s.setTimers n x).timers m = if m = n then x else s.timers m := by
  by_cases h : m = n
  · subst h; simp
  · simp [State.timers, State.setTimers, h, Fin.val_inj, Ne.symm h]
@[simp] theorem State.timers_setTimers_other (s : State) (n m : Fin 8) (x : SlotTimers) (h : m ≠ n) :
    (s.setTimers n x).timers m = s.timers m := by simp [State.timers_setTimers, h]

/-! ### Tickets -/

@[simp] theorem State.setTicket_pif (s : State) (k : Fin 16) (x : Ticket) : (s.setTicket k x).pif = s.pif := rfl
@[simp] theorem State.setTicket_ports (s : State) (k : Fin 16) (x : Ticket) : (s.setTicket k x).ports = s.ports := rfl
@[simp] theorem State.setTicket_tb (s : State) (k : Fin 16) (x : Ticket) : (s.setTicket k x).tb = s.tb := rfl
@[simp] theorem State.setTicket_ccu (s : State) (k : Fin 16) (x : Ticket) : (s.setTicket k x).ccu = s.ccu := rfl
@[simp] theorem State.setTicket_sc (s : State) (k : Fin 16) (x : Ticket) : (s.setTicket k x).sc = s.sc := rfl
@[simp] theorem State.setTicket_stu (s : State) (k : Fin 16) (x : Ticket) : (s.setTicket k x).stu = s.stu := rfl
@[simp] theorem State.setTicket_te (s : State) (k : Fin 16) (x : Ticket) : (s.setTicket k x).te = s.te := rfl
@[simp] theorem State.setTicket_pm (s : State) (k : Fin 16) (x : Ticket) : (s.setTicket k x).pm = s.pm := rfl
@[simp] theorem State.setTicket_eru (s : State) (k : Fin 16) (x : Ticket) : (s.setTicket k x).eru = s.eru := rfl
@[simp] theorem State.setTicket_freeCount (s : State) (k : Fin 16) (x : Ticket) : (s.setTicket k x).freeCount = s.freeCount := rfl
@[simp] theorem State.setTicket_pending (s : State) (k : Fin 16) (x : Ticket) : (s.setTicket k x).pending = s.pending := rfl
@[simp] theorem State.setTicket_slot (s : State) (k : Fin 16) (x : Ticket) (n : Fin 8) : (s.setTicket k x).slot n = s.slot n := rfl
@[simp] theorem State.setTicket_timers (s : State) (k : Fin 16) (x : Ticket) (n : Fin 8) :
    (s.setTicket k x).timers n = s.timers n := rfl
@[simp] theorem State.setTicket_currentRung (s : State) (k : Fin 16) (x : Ticket) :
    (s.setTicket k x).vu.currentRung = s.vu.currentRung := rfl
@[simp] theorem State.setTicket_dwell (s : State) (k : Fin 16) (x : Ticket) : (s.setTicket k x).vu.dwell = s.vu.dwell := rfl
@[simp] theorem State.setTicket_tickets (s : State) (k : Fin 16) (x : Ticket) :
    (s.setTicket k x).vu.tickets = s.vu.tickets.set k x := rfl
@[simp] theorem State.ticket_setTicket_same (s : State) (k : Fin 16) (x : Ticket) : (s.setTicket k x).ticket k = x := by
  simp [State.ticket, State.setTicket]
theorem State.ticket_setTicket (s : State) (k j : Fin 16) (x : Ticket) :
    (s.setTicket k x).ticket j = if j = k then x else s.ticket j := by
  by_cases h : j = k
  · subst h; simp
  · simp [State.ticket, State.setTicket, h, Fin.val_inj, Ne.symm h]
@[simp] theorem State.ticket_setTicket_other (s : State) (k j : Fin 16) (x : Ticket) (h : j ≠ k) :
    (s.setTicket k x).ticket j = s.ticket j := by simp [State.ticket_setTicket, h]

/-! ### Record positions -/

@[simp] theorem State.setPosition_pif (s : State) (p : Position) (x : PositionState) :
    (s.setPosition p x).pif = s.pif := by cases p <;> rfl
@[simp] theorem State.setPosition_ports (s : State) (p : Position) (x : PositionState) :
    (s.setPosition p x).ports = s.ports := by cases p <;> rfl
@[simp] theorem State.setPosition_tb (s : State) (p : Position) (x : PositionState) :
    (s.setPosition p x).tb = s.tb := by cases p <;> rfl
@[simp] theorem State.setPosition_sc (s : State) (p : Position) (x : PositionState) :
    (s.setPosition p x).sc = s.sc := by cases p <;> rfl
@[simp] theorem State.setPosition_stu (s : State) (p : Position) (x : PositionState) :
    (s.setPosition p x).stu = s.stu := by cases p <;> rfl
@[simp] theorem State.setPosition_te (s : State) (p : Position) (x : PositionState) :
    (s.setPosition p x).te = s.te := by cases p <;> rfl
@[simp] theorem State.setPosition_vu (s : State) (p : Position) (x : PositionState) :
    (s.setPosition p x).vu = s.vu := by cases p <;> rfl
@[simp] theorem State.setPosition_pm (s : State) (p : Position) (x : PositionState) :
    (s.setPosition p x).pm = s.pm := by cases p <;> rfl
@[simp] theorem State.setPosition_eru (s : State) (p : Position) (x : PositionState) :
    (s.setPosition p x).eru = s.eru := by cases p <;> rfl
@[simp] theorem State.setPosition_freeCount (s : State) (p : Position) (x : PositionState) :
    (s.setPosition p x).freeCount = s.freeCount := by cases p <;> rfl
@[simp] theorem State.setPosition_pending (s : State) (p : Position) (x : PositionState) :
    (s.setPosition p x).pending = s.pending := by cases p <;> rfl
@[simp] theorem State.setPosition_shadow (s : State) (p : Position) (x : PositionState) :
    (s.setPosition p x).ccu.shadow = s.ccu.shadow := by cases p <;> rfl
@[simp] theorem State.setPosition_adoptedSetup (s : State) (p : Position) (x : PositionState) :
    (s.setPosition p x).ccu.adoptedSetup = s.ccu.adoptedSetup := by cases p <;> rfl
@[simp] theorem State.setPosition_adoptedLadder (s : State) (p : Position) (x : PositionState) :
    (s.setPosition p x).ccu.adoptedLadder = s.ccu.adoptedLadder := by cases p <;> rfl
@[simp] theorem State.setPosition_adoptedWindows (s : State) (p : Position) (x : PositionState) :
    (s.setPosition p x).ccu.adoptedWindows = s.ccu.adoptedWindows := by cases p <;> rfl
@[simp] theorem State.setPosition_counter (s : State) (p : Position) (x : PositionState) :
    (s.setPosition p x).ccu.counter = s.ccu.counter := by cases p <;> rfl
@[simp] theorem State.setPosition_rejectionNote (s : State) (p : Position) (x : PositionState) :
    (s.setPosition p x).ccu.rejectionNote = s.ccu.rejectionNote := by cases p <;> rfl
@[simp] theorem State.setPosition_clampNote (s : State) (p : Position) (x : PositionState) :
    (s.setPosition p x).ccu.clampNote = s.ccu.clampNote := by cases p <;> rfl
@[simp] theorem State.setPosition_directiveNote (s : State) (p : Position) (x : PositionState) :
    (s.setPosition p x).ccu.directiveNote = s.ccu.directiveNote := by cases p <;> rfl
@[simp] theorem State.setPosition_slot (s : State) (p : Position) (x : PositionState) (n : Fin 8) :
    (s.setPosition p x).slot n = s.slot n := by cases p <;> rfl
@[simp] theorem State.setPosition_timers (s : State) (p : Position) (x : PositionState) (n : Fin 8) :
    (s.setPosition p x).timers n = s.timers n := by cases p <;> rfl
@[simp] theorem State.setPosition_ticket (s : State) (p : Position) (x : PositionState) (k : Fin 16) :
    (s.setPosition p x).ticket k = s.ticket k := by cases p <;> rfl
@[simp] theorem State.setPosition_setup (s : State) (p : Position) (x : PositionState) :
    (s.setPosition p x).setup = s.setup := by cases p <;> rfl
@[simp] theorem State.setPosition_now (s : State) (p : Position) (x : PositionState) :
    (s.setPosition p x).now = s.now := by cases p <;> rfl
theorem State.position_setPosition (s : State) (p q : Position) (x : PositionState) :
    (s.setPosition p x).position q = if q = p then x else s.position q := by cases p <;> cases q <;> rfl
@[simp] theorem State.position_setPosition_same (s : State) (p : Position) (x : PositionState) :
    (s.setPosition p x).position p = x := by simp [State.position_setPosition]
@[simp] theorem State.position_setPosition_other (s : State) (p q : Position) (x : PositionState) (h : q ≠ p) :
    (s.setPosition p x).position q = s.position q := by simp [State.position_setPosition, h]

/-! ### Event flags -/

@[simp] theorem raiseFlag_pif (s : State) (e : Event) : (raiseFlag s e).pif = s.pif := rfl
@[simp] theorem raiseFlag_ports (s : State) (e : Event) : (raiseFlag s e).ports = s.ports := rfl
@[simp] theorem raiseFlag_tb (s : State) (e : Event) : (raiseFlag s e).tb = s.tb := rfl
@[simp] theorem raiseFlag_ccu (s : State) (e : Event) : (raiseFlag s e).ccu = s.ccu := rfl
@[simp] theorem raiseFlag_sc (s : State) (e : Event) : (raiseFlag s e).sc = s.sc := rfl
@[simp] theorem raiseFlag_stu (s : State) (e : Event) : (raiseFlag s e).stu = s.stu := rfl
@[simp] theorem raiseFlag_te (s : State) (e : Event) : (raiseFlag s e).te = s.te := rfl
@[simp] theorem raiseFlag_vu (s : State) (e : Event) : (raiseFlag s e).vu = s.vu := rfl
@[simp] theorem raiseFlag_pm (s : State) (e : Event) : (raiseFlag s e).pm = s.pm := rfl
@[simp] theorem raiseFlag_freeCount (s : State) (e : Event) : (raiseFlag s e).freeCount = s.freeCount := rfl
@[simp] theorem raiseFlag_pending (s : State) (e : Event) : (raiseFlag s e).pending = s.pending := rfl
@[simp] theorem raiseFlag_slot (s : State) (e : Event) (n : Fin 8) : (raiseFlag s e).slot n = s.slot n := rfl
@[simp] theorem raiseFlag_timers (s : State) (e : Event) (n : Fin 8) : (raiseFlag s e).timers n = s.timers n := rfl
@[simp] theorem raiseFlag_ticket (s : State) (e : Event) (k : Fin 16) : (raiseFlag s e).ticket k = s.ticket k := rfl
@[simp] theorem raiseFlag_position (s : State) (e : Event) (p : Position) : (raiseFlag s e).position p = s.position p := rfl
@[simp] theorem raiseFlag_setup (s : State) (e : Event) : (raiseFlag s e).setup = s.setup := rfl
@[simp] theorem raiseFlag_ladder (s : State) (e : Event) : (raiseFlag s e).ladder = s.ladder := rfl
@[simp] theorem raiseFlag_now (s : State) (e : Event) : (raiseFlag s e).now = s.now := rfl

/-! ### Tallies -/

@[simp] theorem growTally_pif (s : State) (kind : TallyKind) (j : Nat) : (growTally s kind j).pif = s.pif := rfl
@[simp] theorem growTally_ports (s : State) (kind : TallyKind) (j : Nat) : (growTally s kind j).ports = s.ports := rfl
@[simp] theorem growTally_tb (s : State) (kind : TallyKind) (j : Nat) : (growTally s kind j).tb = s.tb := rfl
@[simp] theorem growTally_ccu (s : State) (kind : TallyKind) (j : Nat) : (growTally s kind j).ccu = s.ccu := rfl
@[simp] theorem growTally_sc (s : State) (kind : TallyKind) (j : Nat) : (growTally s kind j).sc = s.sc := rfl
@[simp] theorem growTally_stu (s : State) (kind : TallyKind) (j : Nat) : (growTally s kind j).stu = s.stu := rfl
@[simp] theorem growTally_te (s : State) (kind : TallyKind) (j : Nat) : (growTally s kind j).te = s.te := rfl
@[simp] theorem growTally_vu (s : State) (kind : TallyKind) (j : Nat) : (growTally s kind j).vu = s.vu := rfl
@[simp] theorem growTally_pm (s : State) (kind : TallyKind) (j : Nat) : (growTally s kind j).pm = s.pm := rfl
@[simp] theorem growTally_freeCount (s : State) (kind : TallyKind) (j : Nat) : (growTally s kind j).freeCount = s.freeCount := rfl
@[simp] theorem growTally_pending (s : State) (kind : TallyKind) (j : Nat) : (growTally s kind j).pending = s.pending := rfl
@[simp] theorem growTally_slot (s : State) (kind : TallyKind) (j : Nat) (n : Fin 8) : (growTally s kind j).slot n = s.slot n := rfl
@[simp] theorem growTally_timers (s : State) (kind : TallyKind) (j : Nat) (n : Fin 8) : (growTally s kind j).timers n = s.timers n := rfl
@[simp] theorem growTally_ticket (s : State) (kind : TallyKind) (j : Nat) (k : Fin 16) : (growTally s kind j).ticket k = s.ticket k := rfl
@[simp] theorem growTally_position (s : State) (kind : TallyKind) (j : Nat) (p : Position) : (growTally s kind j).position p = s.position p := rfl
@[simp] theorem growTally_setup (s : State) (kind : TallyKind) (j : Nat) : (growTally s kind j).setup = s.setup := rfl
@[simp] theorem growTally_ladder (s : State) (kind : TallyKind) (j : Nat) : (growTally s kind j).ladder = s.ladder := rfl
@[simp] theorem growTally_now (s : State) (kind : TallyKind) (j : Nat) : (growTally s kind j).now = s.now := rfl

/-! ### Events that grow a tally -/

@[simp] theorem reportEvent_pif (s : State) (e : Event) (kind : TallyKind) : (reportEvent s e kind).pif = s.pif := rfl
@[simp] theorem reportEvent_ports (s : State) (e : Event) (kind : TallyKind) : (reportEvent s e kind).ports = s.ports := rfl
@[simp] theorem reportEvent_tb (s : State) (e : Event) (kind : TallyKind) : (reportEvent s e kind).tb = s.tb := rfl
@[simp] theorem reportEvent_ccu (s : State) (e : Event) (kind : TallyKind) : (reportEvent s e kind).ccu = s.ccu := rfl
@[simp] theorem reportEvent_sc (s : State) (e : Event) (kind : TallyKind) : (reportEvent s e kind).sc = s.sc := rfl
@[simp] theorem reportEvent_stu (s : State) (e : Event) (kind : TallyKind) : (reportEvent s e kind).stu = s.stu := rfl
@[simp] theorem reportEvent_te (s : State) (e : Event) (kind : TallyKind) : (reportEvent s e kind).te = s.te := rfl
@[simp] theorem reportEvent_vu (s : State) (e : Event) (kind : TallyKind) : (reportEvent s e kind).vu = s.vu := rfl
@[simp] theorem reportEvent_pm (s : State) (e : Event) (kind : TallyKind) : (reportEvent s e kind).pm = s.pm := rfl
@[simp] theorem reportEvent_freeCount (s : State) (e : Event) (kind : TallyKind) : (reportEvent s e kind).freeCount = s.freeCount := rfl
@[simp] theorem reportEvent_pending (s : State) (e : Event) (kind : TallyKind) : (reportEvent s e kind).pending = s.pending := rfl
@[simp] theorem reportEvent_slot (s : State) (e : Event) (kind : TallyKind) (n : Fin 8) : (reportEvent s e kind).slot n = s.slot n := rfl
@[simp] theorem reportEvent_timers (s : State) (e : Event) (kind : TallyKind) (n : Fin 8) : (reportEvent s e kind).timers n = s.timers n := rfl
@[simp] theorem reportEvent_ticket (s : State) (e : Event) (kind : TallyKind) (k : Fin 16) : (reportEvent s e kind).ticket k = s.ticket k := rfl
@[simp] theorem reportEvent_position (s : State) (e : Event) (kind : TallyKind) (p : Position) : (reportEvent s e kind).position p = s.position p := rfl
@[simp] theorem reportEvent_setup (s : State) (e : Event) (kind : TallyKind) : (reportEvent s e kind).setup = s.setup := rfl
@[simp] theorem reportEvent_ladder (s : State) (e : Event) (kind : TallyKind) : (reportEvent s e kind).ladder = s.ladder := rfl
@[simp] theorem reportEvent_now (s : State) (e : Event) (kind : TallyKind) : (reportEvent s e kind).now = s.now := rfl

/-! ### Ports: forwarded writes -/

@[simp] theorem forwardWrite_pif (s : State) (w : BusWrite) : (forwardWrite s w).pif = s.pif := rfl
@[simp] theorem forwardWrite_tb (s : State) (w : BusWrite) : (forwardWrite s w).tb = s.tb := rfl
@[simp] theorem forwardWrite_ccu (s : State) (w : BusWrite) : (forwardWrite s w).ccu = s.ccu := rfl
@[simp] theorem forwardWrite_sc (s : State) (w : BusWrite) : (forwardWrite s w).sc = s.sc := rfl
@[simp] theorem forwardWrite_stu (s : State) (w : BusWrite) : (forwardWrite s w).stu = s.stu := rfl
@[simp] theorem forwardWrite_te (s : State) (w : BusWrite) : (forwardWrite s w).te = s.te := rfl
@[simp] theorem forwardWrite_vu (s : State) (w : BusWrite) : (forwardWrite s w).vu = s.vu := rfl
@[simp] theorem forwardWrite_pm (s : State) (w : BusWrite) : (forwardWrite s w).pm = s.pm := rfl
@[simp] theorem forwardWrite_eru (s : State) (w : BusWrite) : (forwardWrite s w).eru = s.eru := rfl
@[simp] theorem forwardWrite_freeCount (s : State) (w : BusWrite) : (forwardWrite s w).freeCount = s.freeCount := rfl
@[simp] theorem forwardWrite_pending (s : State) (w : BusWrite) : (forwardWrite s w).pending = s.pending := rfl
@[simp] theorem forwardWrite_slot (s : State) (w : BusWrite) (n : Fin 8) : (forwardWrite s w).slot n = s.slot n := rfl
@[simp] theorem forwardWrite_timers (s : State) (w : BusWrite) (n : Fin 8) : (forwardWrite s w).timers n = s.timers n := rfl
@[simp] theorem forwardWrite_ticket (s : State) (w : BusWrite) (k : Fin 16) : (forwardWrite s w).ticket k = s.ticket k := rfl
@[simp] theorem forwardWrite_position (s : State) (w : BusWrite) (p : Position) : (forwardWrite s w).position p = s.position p := rfl
@[simp] theorem forwardWrite_setup (s : State) (w : BusWrite) : (forwardWrite s w).setup = s.setup := rfl
@[simp] theorem forwardWrite_ladder (s : State) (w : BusWrite) : (forwardWrite s w).ladder = s.ladder := rfl
@[simp] theorem forwardWrite_now (s : State) (w : BusWrite) : (forwardWrite s w).now = s.now := rfl

/-! ### Ports: returned reads -/

@[simp] theorem returnRead_pif (s : State) (r : ReadResponse) (data : List Byte) : (returnRead s r data).pif = s.pif := rfl
@[simp] theorem returnRead_tb (s : State) (r : ReadResponse) (data : List Byte) : (returnRead s r data).tb = s.tb := rfl
@[simp] theorem returnRead_ccu (s : State) (r : ReadResponse) (data : List Byte) : (returnRead s r data).ccu = s.ccu := rfl
@[simp] theorem returnRead_sc (s : State) (r : ReadResponse) (data : List Byte) : (returnRead s r data).sc = s.sc := rfl
@[simp] theorem returnRead_stu (s : State) (r : ReadResponse) (data : List Byte) : (returnRead s r data).stu = s.stu := rfl
@[simp] theorem returnRead_te (s : State) (r : ReadResponse) (data : List Byte) : (returnRead s r data).te = s.te := rfl
@[simp] theorem returnRead_vu (s : State) (r : ReadResponse) (data : List Byte) : (returnRead s r data).vu = s.vu := rfl
@[simp] theorem returnRead_pm (s : State) (r : ReadResponse) (data : List Byte) : (returnRead s r data).pm = s.pm := rfl
@[simp] theorem returnRead_eru (s : State) (r : ReadResponse) (data : List Byte) : (returnRead s r data).eru = s.eru := rfl
@[simp] theorem returnRead_freeCount (s : State) (r : ReadResponse) (data : List Byte) : (returnRead s r data).freeCount = s.freeCount := rfl
@[simp] theorem returnRead_pending (s : State) (r : ReadResponse) (data : List Byte) : (returnRead s r data).pending = s.pending := rfl
@[simp] theorem returnRead_slot (s : State) (r : ReadResponse) (data : List Byte) (n : Fin 8) : (returnRead s r data).slot n = s.slot n := rfl
@[simp] theorem returnRead_timers (s : State) (r : ReadResponse) (data : List Byte) (n : Fin 8) : (returnRead s r data).timers n = s.timers n := rfl
@[simp] theorem returnRead_ticket (s : State) (r : ReadResponse) (data : List Byte) (k : Fin 16) : (returnRead s r data).ticket k = s.ticket k := rfl
@[simp] theorem returnRead_position (s : State) (r : ReadResponse) (data : List Byte) (p : Position) : (returnRead s r data).position p = s.position p := rfl
@[simp] theorem returnRead_setup (s : State) (r : ReadResponse) (data : List Byte) : (returnRead s r data).setup = s.setup := rfl
@[simp] theorem returnRead_ladder (s : State) (r : ReadResponse) (data : List Byte) : (returnRead s r data).ladder = s.ladder := rfl
@[simp] theorem returnRead_now (s : State) (r : ReadResponse) (data : List Byte) : (returnRead s r data).now = s.now := rfl

/-! ### The snapshot -/

@[simp] theorem takeSnapshot_pif (s : State) : (takeSnapshot s).pif = s.pif := by
  simp only [takeSnapshot]
@[simp] theorem takeSnapshot_ports (s : State) : (takeSnapshot s).ports = s.ports := by
  simp only [takeSnapshot]
@[simp] theorem takeSnapshot_tb (s : State) : (takeSnapshot s).tb = s.tb := by
  simp only [takeSnapshot]
@[simp] theorem takeSnapshot_ccu (s : State) : (takeSnapshot s).ccu = s.ccu := by
  simp only [takeSnapshot]
@[simp] theorem takeSnapshot_sc (s : State) : (takeSnapshot s).sc = s.sc := by
  simp only [takeSnapshot]
@[simp] theorem takeSnapshot_stu (s : State) : (takeSnapshot s).stu = s.stu := by
  simp only [takeSnapshot]
@[simp] theorem takeSnapshot_te (s : State) : (takeSnapshot s).te = s.te := by
  simp only [takeSnapshot]
@[simp] theorem takeSnapshot_vu (s : State) : (takeSnapshot s).vu = s.vu := by
  simp only [takeSnapshot]
@[simp] theorem takeSnapshot_pm (s : State) : (takeSnapshot s).pm = s.pm := by
  simp only [takeSnapshot]
@[simp] theorem takeSnapshot_pending (s : State) : (takeSnapshot s).pending = s.pending := by
  simp only [takeSnapshot]
@[simp] theorem takeSnapshot_slot (s : State) (n : Fin 8) : (takeSnapshot s).slot n = s.slot n := by
  simp only [takeSnapshot, State.slot]
@[simp] theorem takeSnapshot_timers (s : State) (n : Fin 8) : (takeSnapshot s).timers n = s.timers n := by
  simp only [takeSnapshot, State.timers]
@[simp] theorem takeSnapshot_ticket (s : State) (k : Fin 16) : (takeSnapshot s).ticket k = s.ticket k := by
  simp only [takeSnapshot, State.ticket]
@[simp] theorem takeSnapshot_position (s : State) (p : Position) : (takeSnapshot s).position p = s.position p := by
  simp only [takeSnapshot, State.position]
@[simp] theorem takeSnapshot_setup (s : State) : (takeSnapshot s).setup = s.setup := by
  simp only [takeSnapshot, State.setup]
@[simp] theorem takeSnapshot_ladder (s : State) : (takeSnapshot s).ladder = s.ladder := by
  simp only [takeSnapshot, State.ladder]
@[simp] theorem takeSnapshot_now (s : State) : (takeSnapshot s).now = s.now := by
  simp only [takeSnapshot, State.now]

/-! ### Vectors of slots, timers and tickets are their entries -/

/-- Two slot tables with the same records are the same. -/
theorem slots_ext {a b : Vector Slot 8} (h : ∀ n : Fin 8, a[n] = b[n]) : a = b :=
  Vector.ext (fun i hi => h ⟨i, hi⟩)

/-- Two timer tables with the same timers are the same. -/
theorem timers_ext {a b : Vector SlotTimers 8} (h : ∀ n : Fin 8, a[n] = b[n]) : a = b :=
  Vector.ext (fun i hi => h ⟨i, hi⟩)

/-- The slots of a state all of whose slot records are known. -/
theorem State.slots_eq_of_slot {s t : State} (h : ∀ n : Fin 8, s.slot n = t.slot n) : s.stu.slots = t.stu.slots := slots_ext h

/-- The timers of a state all of whose timers are known. -/
theorem State.timers_eq_of_timers {s t : State} (h : ∀ n : Fin 8, s.timers n = t.timers n) : s.pm.timers = t.pm.timers :=
  timers_ext h

end Sys2Proof.Machine
end

