-- ==== Sys2Proof/Laws/TimeBase.lean ====
section
/-! SUPPORT. When the due expiries are none, and what an event taken while RST is released then is. -/

namespace Sys2Proof.Machine

theorem mem_allSlots (n : Fin 8) : n ∈ allSlots := by revert n; decide

theorem mem_allPositions (p : Position) : p ∈ allPositions := by cases p <;> decide

/-- No timer of any slot or position is due. -/
theorem State.noneDue_iff (s : State) : s.noneDue = true ↔
    (∀ p, s.settleDue p = false) ∧ ∀ n, s.stallDue n = false ∧ s.checkDue n = false ∧ s.graceDue n = false := by
  simp only [State.noneDue, Bool.and_eq_true, List.all_eq_true, Bool.not_eq_true']
  constructor
  · rintro ⟨hp, hn⟩
    exact ⟨fun p => hp p (mem_allPositions p), fun n => by simpa [and_assoc] using hn n (mem_allSlots n)⟩
  · rintro ⟨hp, hn⟩
    exact ⟨fun p _ => hp p, fun n _ => by simp [hn n]⟩

theorem settleExpiries_of_none {s : State} (h : ∀ p, s.settleDue p = false) : settleExpiries s = s := by
  have : allPositions.filter s.settleDue = [] := by simp [h]
  simp [settleExpiries, this]

theorem slotExpiries_of_none {s : State} {n : Fin 8}
    (h : s.stallDue n = false ∧ s.checkDue n = false ∧ s.graceDue n = false) : slotExpiries s n = s := by
  simp [slotExpiries, stallIfDue, checkIfDue, graceIfDue, h]

/-- With no timer due, there is no expiry to take. -/
theorem takeDueExpiries_of_noneDue {s : State} (h : s.noneDue = true) : takeDueExpiries s = s := by
  rw [State.noneDue_iff] at h
  rw [takeDueExpiries, settleExpiries_of_none h.1]
  have : ∀ l : List (Fin 8), l.foldl slotExpiries s = s := by
    intro l
    induction l with
    | nil => rfl
    | cons n l ih => rw [List.foldl_cons, slotExpiries_of_none (h.2 n), ih]
  exact this _

theorem State.takesEvents_iff (s : State) : s.takesEvents = true ↔ s.pif.resetAsserted = false ∧ s.noneDue = true := by
  simp [State.takesEvents]

/-- An event taken with nothing before it. -/
theorem whenReleased_of_takesEvents {s : State} (h : s.takesEvents = true) (event : State → State) :
    whenReleased s event = event s := by
  rw [State.takesEvents_iff] at h
  simp [whenReleased, h.1, takeDueExpiries_of_noneDue h.2]

/-- Under an asserted RST no event is taken (R32). -/
theorem whenReleased_of_reset {s : State} (h : s.pif.resetAsserted = true) (event : State → State) :
    whenReleased s event = s := by simp [whenReleased, h]

@[simp] theorem forwardWrite_noneDue (s : State) (w : BusWrite) : (forwardWrite s w).noneDue = s.noneDue := rfl

@[simp] theorem forwardWrite_takesEvents (s : State) (w : BusWrite) : (forwardWrite s w).takesEvents = s.takesEvents := rfl

/-- A write taken with nothing before it is forwarded and observed (R17, R18). -/
theorem writeTransaction_of_takesEvents {s : State} (h : s.takesEvents = true) (w : BusWrite) :
    writeTransaction s w = observeWrite (forwardWrite s w) w :=
  whenReleased_of_takesEvents (s := forwardWrite s w) h _

/-- A write under an asserted RST is forwarded alone (R32). -/
theorem writeTransaction_of_reset {s : State} (h : s.pif.resetAsserted = true) (w : BusWrite) :
    writeTransaction s w = forwardWrite s w := whenReleased_of_reset (s := forwardWrite s w) h _

/-- A read response taken with nothing before it (R25, R29). -/
theorem readTransaction_of_takesEvents {s : State} (h : s.takesEvents = true) (r : ReadResponse) :
    readTransaction s r = readReleased s r := by
  rw [State.takesEvents_iff] at h
  simp [readTransaction, h.1, takeDueExpiries_of_noneDue h.2]

/-- A read response under an asserted RST is returned as it came (R32). -/
theorem readTransaction_of_reset {s : State} (h : s.pif.resetAsserted = true) (r : ReadResponse) :
    readTransaction s r = returnRead s r r.data := by simp [readTransaction, h]

/-- Every command that is a write runs the one write transaction. -/
theorem exec_of_writeOf {c : Instr} {w : BusWrite} (h : writeOf c = some w) (s : State) :
    exec c s = .next (writeTransaction s w) := by
  cases c <;> simp only [writeOf, Option.some.injEq, reduceCtorEq] at h <;> subst h <;> rfl

/-- Every command that is a read response runs the one read transaction. -/
theorem exec_of_readOf {c : Instr} {r : ReadResponse} (h : readOf c = some r) (s : State) :
    exec c s = .next (readTransaction s r) := by
  cases c <;> simp only [readOf, Option.some.injEq, reduceCtorEq] at h <;> subst h <;> rfl

end Sys2Proof.Machine
end

