-- ==== Sys2Proof/Laws/Ops.lean ====
section
/-! SUPPORT. The byte buffers' laws (a read after a write, and the canonical form that every write keeps), the playout queue's
insertion, and what each search of the slot table finds. -/

namespace Sys2Proof.Machine

/-! ### Byte buffers -/

theorem risingAbove_cons {low k : Nat} {b : Byte} {rest : ByteStore} :
    risingAbove low ((k, b) :: rest) = true ↔ low ≤ k ∧ b ≠ 0 ∧ risingAbove (k + 1) rest = true := by
  simp only [risingAbove, Bool.and_eq_true, decide_eq_true_eq, and_assoc]

theorem risingAbove_mono {low low' : Nat} (h : low' ≤ low) {m : ByteStore} (hm : risingAbove low m = true) :
    risingAbove low' m = true := by
  cases m with
  | nil => rfl
  | cons c rest =>
    obtain ⟨k, b⟩ := c
    rw [risingAbove_cons] at hm ⊢
    exact ⟨le_trans h hm.1, hm.2⟩

/-- Below every listed offset a buffer reads 0. -/
theorem readByte_below {low : Nat} {m : ByteStore} (hm : risingAbove low m = true) {a : Nat} (h : a < low) :
    readByte m a = 0 := by
  induction m generalizing low with
  | nil => rfl
  | cons c rest ih =>
    obtain ⟨k, b⟩ := c
    rw [risingAbove_cons] at hm
    rw [readByte, if_neg (by omega)]
    exact ih hm.2.2 (by omega)

/-- A write keeps the canonical form. -/
theorem risingAbove_writeByte {low : Nat} {m : ByteStore} (hm : risingAbove low m = true) {a : Nat} (h : low ≤ a) (v : Byte) :
    risingAbove low (writeByte m a v) = true := by
  induction m generalizing low with
  | nil =>
    unfold writeByte
    split
    · rfl
    · rename_i hv; exact risingAbove_cons.2 ⟨h, hv, rfl⟩
  | cons c rest ih =>
    obtain ⟨k, b⟩ := c
    have hm' := risingAbove_cons.1 hm
    unfold writeByte
    split
    · rename_i hak
      split
      · exact hm
      · rename_i hv
        exact risingAbove_cons.2 ⟨h, hv, risingAbove_cons.2 ⟨hak, hm'.2⟩⟩
    · split
      · rename_i hak
        split
        · exact risingAbove_mono (by omega) hm'.2.2
        · rename_i hv
          exact risingAbove_cons.2 ⟨h, hv, hak ▸ hm'.2.2⟩
      · exact risingAbove_cons.2 ⟨hm'.1, hm'.2.1, ih hm'.2.2 (by omega)⟩

/-- A read after a write: the byte written at its offset, what stood there at any other. -/
theorem readByte_writeByte {low : Nat} {m : ByteStore} (hm : risingAbove low m = true) (a b : Nat) (v : Byte) :
    readByte (writeByte m a v) b = if b = a then v else readByte m b := by
  induction m generalizing low with
  | nil =>
    unfold writeByte
    by_cases hv : v = 0
    · simp [hv, readByte]
    · simp only [hv, if_false, readByte, eq_comm (a := a)]
  | cons c rest ih =>
    obtain ⟨k, w⟩ := c
    have hr := (risingAbove_cons.1 hm).2.2
    unfold writeByte
    by_cases h1 : a < k
    · rw [if_pos h1]
      by_cases hv : v = 0
      · rw [if_pos hv]
        by_cases hb : b = a
        · rw [if_pos hb, hv, hb]
          exact readByte_below (risingAbove_cons.2 ⟨le_refl k, (risingAbove_cons.1 hm).2⟩) h1
        · rw [if_neg hb]
      · rw [if_neg hv]
        simp only [readByte, eq_comm (a := a)]
    · rw [if_neg h1]
      by_cases h2 : a = k
      · subst h2
        rw [if_pos rfl]
        by_cases hv : v = 0
        · rw [if_pos hv]
          by_cases hb : b = a
          · rw [if_pos hb, hv, hb]; exact readByte_below hr (by omega)
          · rw [if_neg hb, readByte, if_neg (Ne.symm hb)]
        · rw [if_neg hv]
          by_cases hb : b = a
          · simp [readByte, hb]
          · simp [readByte, hb, Ne.symm hb]
      · rw [if_neg h2]
        simp only [readByte, ih hr]
        by_cases hb : b = a
        · subst hb; simp [Ne.symm h2]
        · simp [hb]

/-- `writeByte` keeps the canonical form. -/
theorem wf_writeByte {m : ByteStore} (h : ByteStore.wf m = true) (a : Nat) (v : Byte) :
    ByteStore.wf (writeByte m a v) = true := risingAbove_writeByte h (Nat.zero_le a) v

/-- `writeBytes` keeps the canonical form. -/
theorem wf_writeBytes {m : ByteStore} (h : ByteStore.wf m = true) (bytes : List (Nat × Byte)) :
    ByteStore.wf (writeBytes m bytes) = true := by
  induction bytes generalizing m with
  | nil => exact h
  | cons x rest ih => exact ih (wf_writeByte h x.1 x.2)

theorem mem_writeByte {m : ByteStore} {a : Nat} {v : Byte} {c : Host.Cell} (h : c ∈ writeByte m a v) : c ∈ m ∨ c.1 = a := by
  induction m with
  | nil =>
    unfold writeByte at h
    split at h
    · simp at h
    · simp at h; simp [h]
  | cons x rest ih =>
    obtain ⟨k, b⟩ := x
    unfold writeByte at h
    split at h
    · split at h
      · exact .inl h
      · rcases List.mem_cons.1 h with h | h
        · simp [h]
        · exact .inl h
    · split at h
      · split at h
        · exact .inl (List.mem_cons_of_mem _ h)
        · rcases List.mem_cons.1 h with h | h
          · simp [h]
          · exact .inl (List.mem_cons_of_mem _ h)
      · rcases List.mem_cons.1 h with h | h
        · simp [h]
        · rcases ih h with h | h
          · exact .inl (List.mem_cons_of_mem _ h)
          · exact .inr h

/-- Writes below a buffer's size keep it inside that size. -/
theorem within_writeBytes {m : ByteStore} {size : Nat} (h : ByteStore.within m size = true) {bytes : List (Nat × Byte)}
    (hb : ∀ x ∈ bytes, x.1 < size) : ByteStore.within (writeBytes m bytes) size = true := by
  induction bytes generalizing m with
  | nil => exact h
  | cons x rest ih =>
    refine ih ?_ (fun y hy => hb y (List.mem_cons_of_mem _ hy))
    simp only [ByteStore.within, List.all_eq_true, decide_eq_true_eq] at h ⊢
    intro c hc
    rcases mem_writeByte hc with hc | hc
    · exact h c hc
    · rw [hc]; exact hb x (List.mem_cons_self)

/-- An offset that no write names reads as before. -/
theorem readByte_writeBytes_other {m : ByteStore} (h : ByteStore.wf m = true) {bytes : List (Nat × Byte)} {a : Nat}
    (hb : ∀ x ∈ bytes, x.1 ≠ a) : readByte (writeBytes m bytes) a = readByte m a := by
  induction bytes generalizing m with
  | nil => rfl
  | cons x rest ih =>
    have hx := hb x List.mem_cons_self
    have := ih (wf_writeByte h x.1 x.2) (fun y hy => hb y (List.mem_cons_of_mem _ hy))
    rw [writeBytes, List.foldl_cons]
    rw [writeBytes] at this
    rw [this, readByte_writeByte h, if_neg hx.symm]

/-! ### The playout queue -/

theorem mem_insertBySegment {segmentOf : Fin 8 → Nat} {segment : Nat} {n m : Fin 8} {q : List (Fin 8)} :
    m ∈ insertBySegment segmentOf segment n q ↔ m = n ∨ m ∈ q := by
  induction q with
  | nil => simp [insertBySegment]
  | cons k rest ih =>
    unfold insertBySegment
    split
    · simp
    · simp only [List.mem_cons, ih]; tauto

/-- Insertion keeps the queue in strictly ascending segment number, when no slot in it holds the new segment (R50, R51). -/
theorem sorted_insertBySegment {segmentOf : Fin 8 → Nat} {n : Fin 8} {q : List (Fin 8)}
    (h : q.Pairwise (fun a b => segmentOf a < segmentOf b)) (hn : ∀ m ∈ q, segmentOf m ≠ segmentOf n) :
    (insertBySegment segmentOf (segmentOf n) n q).Pairwise (fun a b => segmentOf a < segmentOf b) := by
  induction q with
  | nil => simp [insertBySegment]
  | cons k rest ih =>
    rw [List.pairwise_cons] at h
    unfold insertBySegment
    split
    · rename_i hk
      rw [List.pairwise_cons]
      refine ⟨fun m hm => ?_, List.pairwise_cons.2 h⟩
      rcases List.mem_cons.1 hm with rfl | hm
      · exact hk
      · exact lt_trans hk (h.1 m hm)
    · rename_i hk
      rw [List.pairwise_cons]
      refine ⟨fun m hm => ?_, ih h.2 (fun m hm => hn m (List.mem_cons_of_mem _ hm))⟩
      rcases mem_insertBySegment.1 hm with rfl | hm
      · have := hn k List.mem_cons_self
        omega
      · exact h.1 m hm

/-- Where the new entry stands: after the entries with no higher segment that lead the queue, before the first higher one (R50). -/
theorem insertBySegment_split (segmentOf : Fin 8 → Nat) (segment : Nat) (n : Fin 8) (q : List (Fin 8)) :
    ∃ before after, q = before ++ after ∧ insertBySegment segmentOf segment n q = before ++ n :: after
      ∧ (∀ m ∈ before, segmentOf m ≤ segment) ∧ ∀ m ∈ after.head?, segment < segmentOf m := by
  induction q with
  | nil => exact ⟨[], [], rfl, rfl, by simp, by simp⟩
  | cons k rest ih =>
    unfold insertBySegment
    split
    · rename_i hk
      exact ⟨[], k :: rest, rfl, rfl, by simp, by simpa using hk⟩
    · rename_i hk
      obtain ⟨before, after, h1, h2, h3, h4⟩ := ih
      refine ⟨k :: before, after, by simp [h1], by simp [h2], ?_, h4⟩
      intro m hm
      rcases List.mem_cons.1 hm with rfl | hm
      · omega
      · exact h3 m hm

/-! ### Searches of the slot table -/

/-- A search in ascending slot number finds a slot exactly when it is the lowest-numbered one that meets the condition. -/
theorem find_allSlots_eq_some {p : Fin 8 → Bool} {n : Fin 8} :
    allSlots.find? p = some n ↔ p n = true ∧ ∀ m, m < n → p m = false := by
  have key : ∀ p : Fin 8 → Bool, ∀ n, (List.finRange 8).find? p = some n ↔ p n = true ∧ ∀ m, m < n → p m = false := by
    intro p n
    rw [List.find?_eq_some_iff_getElem]
    constructor
    · rintro ⟨h1, i, hi, h2, h3⟩
      refine ⟨h1, fun m hm => ?_⟩
      have h4 : n.val = i := by simpa using congrArg Fin.val h2.symm
      have h5 : m.val < i := by rw [← h4]; exact hm
      simpa using h3 m.val h5
    · rintro ⟨h1, h2⟩
      refine ⟨h1, n.val, by simp, by simp, fun j hj => ?_⟩
      simpa using h2 ⟨j, by omega⟩ hj
  have : allSlots = List.finRange 8 := by decide
  rw [this]; exact key p n

/-- A search finds nothing exactly when no slot meets the condition. -/
theorem find_allSlots_eq_none {p : Fin 8 → Bool} : allSlots.find? p = none ↔ ∀ m, p m = false := by
  rw [List.find?_eq_none]
  exact ⟨fun h m => by simpa using h m (mem_allSlots m), fun h m _ => by simp [h m]⟩

theorem SlotState.live_eq_false {x : SlotState} : x.live = false ↔ x = .free := by cases x <;> simp [SlotState.live]

theorem SlotState.live_of_unlanded {x : SlotState} (h : x.unlanded = true) : x.live = true := by cases x <;> simp_all [SlotState.unlanded, SlotState.live]

theorem SlotState.live_of_hasLanded {x : SlotState} (h : x.hasLanded = true) : x.live = true := by cases x <;> simp_all [SlotState.hasLanded, SlotState.live]

theorem SlotState.live_iff {x : SlotState} : x.live = true ↔ x.unlanded = true ∨ x.hasLanded = true := by
  cases x <;> simp [SlotState.live, SlotState.unlanded, SlotState.hasLanded]

/-- The lowest-numbered FREE slot (R37). -/
theorem lowestFree_eq_some {s : State} {n : Fin 8} :
    s.lowestFree = some n ↔ (s.slot n).state = .free ∧ ∀ m, m < n → (s.slot m).state ≠ .free := by
  rw [State.lowestFree, find_allSlots_eq_some]
  simp [SlotState.live_eq_false, ← Bool.not_eq_false]

theorem lowestFree_eq_none {s : State} : s.lowestFree = none ↔ ∀ n, (s.slot n).state ≠ .free := by
  rw [State.lowestFree, find_allSlots_eq_none]
  simp [SlotState.live_eq_false, ← Bool.not_eq_false]

/-- The live slot holding a segment (R100). -/
theorem liveHolding_eq_some {s : State} {segment : Nat} {n : Fin 8} :
    s.liveHolding segment = some n ↔ ((s.slot n).state.live = true ∧ (s.slot n).segment = segment)
      ∧ ∀ m, m < n → ¬ ((s.slot m).state.live = true ∧ (s.slot m).segment = segment) := by
  rw [State.liveHolding, find_allSlots_eq_some]
  simp [← Bool.not_eq_true]

theorem liveHolding_eq_none {s : State} {segment : Nat} :
    s.liveHolding segment = none ↔ ∀ n, ¬ ((s.slot n).state.live = true ∧ (s.slot n).segment = segment) := by
  rw [State.liveHolding, find_allSlots_eq_none]
  simp [← Bool.not_eq_true]

/-- The unlanded slot holding a segment (R110). -/
theorem unlandedHolding_eq_some {s : State} {segment : Nat} {n : Fin 8} :
    s.unlandedHolding segment = some n ↔ ((s.slot n).state.unlanded = true ∧ (s.slot n).segment = segment)
      ∧ ∀ m, m < n → ¬ ((s.slot m).state.unlanded = true ∧ (s.slot m).segment = segment) := by
  rw [State.unlandedHolding, find_allSlots_eq_some]
  simp [← Bool.not_eq_true]

theorem unlandedHolding_eq_none {s : State} {segment : Nat} :
    s.unlandedHolding segment = none ↔ ∀ n, ¬ ((s.slot n).state.unlanded = true ∧ (s.slot n).segment = segment) := by
  rw [State.unlandedHolding, find_allSlots_eq_none]
  simp [← Bool.not_eq_true]

/-! ### Freeing (R54) -/

@[simp] theorem freeSlot_slot_same (s : State) (n : Fin 8) : (freeSlot s n).slot n = Slot.empty :=
  State.slot_setSlot_same s n Slot.empty

theorem freeSlot_slot_other (s : State) {n m : Fin 8} (h : m ≠ n) : (freeSlot s n).slot m = s.slot m :=
  State.slot_setSlot_other s n m Slot.empty h

@[simp] theorem freeSlot_queue (s : State) (n : Fin 8) :
    (freeSlot s n).stu.queue = s.stu.queue.filter (fun q => decide (q ≠ n)) := rfl

@[simp] theorem freeSlot_timers_same (s : State) (n : Fin 8) : (freeSlot s n).timers n = SlotTimers.stopped := by
  simp [freeSlot]

end Sys2Proof.Machine
end

