-- ==== Sys2Proof/Laws/Kept.lean ====
section
/-! SUPPORT. What no event touches: the tie-offs, the time base, the forwarded write and the queue of waiting commands. One lemma per
shared operation. -/

namespace Sys2Proof.Machine

/-- `t` has the tie-offs, the time base, the forwarded write and the waiting commands of `s`. -/
structure Kept (s t : State) : Prop where
  pif : t.pif = s.pif
  tb : t.tb = s.tb
  revision : t.eru.revision = s.eru.revision
  write : t.ports.write = s.ports.write
  pending : t.pending = s.pending

theorem Kept.refl (s : State) : Kept s s := ⟨rfl, rfl, rfl, rfl, rfl⟩

theorem Kept.trans {s t u : State} (h : Kept s t) (k : Kept t u) : Kept s u :=
  ⟨k.pif.trans h.pif, k.tb.trans h.tb, k.revision.trans h.revision, k.write.trans h.write, k.pending.trans h.pending⟩

theorem Kept.before {s t u : State} (k : Kept t u) (h : Kept s t) : Kept s u := h.trans k

/-- An operation that keeps every state it is applied to keeps it over a list. -/
theorem Kept.foldl {α : Type} {f : State → α → State} (h : ∀ s a, Kept s (f s a)) (l : List α) (s : State) :
    Kept s (l.foldl f s) := by
  induction l generalizing s with
  | nil => exact Kept.refl s
  | cons a l ih => exact (h s a).trans (ih _)

theorem kept_setSlot (s : State) (n : Fin 8) (x : Slot) : Kept s (s.setSlot n x) := ⟨rfl, rfl, rfl, rfl, rfl⟩
theorem kept_setQueue (s : State) (q : List (Fin 8)) : Kept s (s.setQueue q) := ⟨rfl, rfl, rfl, rfl, rfl⟩
theorem kept_setTimers (s : State) (n : Fin 8) (x : SlotTimers) : Kept s (s.setTimers n x) := ⟨rfl, rfl, rfl, rfl, rfl⟩
theorem kept_setTicket (s : State) (k : Fin 16) (x : Ticket) : Kept s (s.setTicket k x) := ⟨rfl, rfl, rfl, rfl, rfl⟩
theorem kept_setPosition (s : State) (p : Position) (x : PositionState) : Kept s (s.setPosition p x) := by
  cases p <;> exact ⟨rfl, rfl, rfl, rfl, rfl⟩
theorem kept_raiseFlag (s : State) (e : Event) : Kept s (raiseFlag s e) := ⟨rfl, rfl, rfl, rfl, rfl⟩
theorem kept_growTally (s : State) (k : TallyKind) (a : Nat) : Kept s (growTally s k a) := ⟨rfl, rfl, rfl, rfl, rfl⟩
theorem kept_reportEvent (s : State) (e : Event) (k : TallyKind) : Kept s (reportEvent s e k) := ⟨rfl, rfl, rfl, rfl, rfl⟩
theorem kept_takeSnapshot (s : State) : Kept s (takeSnapshot s) := by
  constructor <;> simp only [takeSnapshot]
theorem kept_freeSlot (s : State) (n : Fin 8) : Kept s (freeSlot s n) := ⟨rfl, rfl, rfl, rfl, rfl⟩

/-! ### TE and STU -/

theorem kept_reevaluateCongestion (s : State) : Kept s (reevaluateCongestion s) := by
  unfold reevaluateCongestion
  dsimp only
  split <;> exact ⟨rfl, rfl, rfl, rfl, rfl⟩

theorem kept_countWarmup (s : State) : Kept s (countWarmup s) := by
  constructor <;> simp only [countWarmup]

theorem kept_takePassedSample (s : State) (x : Sample) : Kept s (takePassedSample s x) := by
  unfold takePassedSample
  have h : ∀ (t : State) (y : Te), Kept t { t with te := y } := fun t y => by constructor <;> rfl
  exact ((h s _).trans (h _ _)).trans ((kept_reevaluateCongestion _).trans ((h _ _).trans (kept_countWarmup _)))

theorem kept_takeSample (s : State) (x : Sample) : Kept s (takeSample s x) := by
  unfold takeSample
  split
  · exact kept_growTally s _ _
  · exact kept_takePassedSample s x

theorem kept_consume (s : State) (n : Fin 8) : Kept s (consume s n) := by
  unfold consume consumptionTest
  split
  · exact (kept_freeSlot s n).trans (kept_reportEvent _ _ _)
  · exact kept_freeSlot s n

theorem kept_landRead (s : State) (n : Fin 8) : Kept s (landRead s n) := by
  unfold landRead
  dsimp only
  split
  · exact Kept.refl s
  · split
    · exact (kept_consume _ n).before ⟨rfl, rfl, rfl, rfl, rfl⟩
    · exact ⟨rfl, rfl, rfl, rfl, rfl⟩

theorem kept_land (s : State) (n : Fin 8) : Kept s (land s n) := by
  unfold land
  dsimp only
  exact (kept_landRead _ n).before ((kept_growTally _ _ _).before ((kept_takeSample _ _).before ⟨rfl, rfl, rfl, rfl, rfl⟩))

theorem kept_landIfFull (s : State) (n : Fin 8) : Kept s (landIfFull s n) := by
  unfold landIfFull
  split
  · exact kept_land s n
  · exact Kept.refl s

theorem kept_fillObservation (s : State) (n : Fin 8) (low fillEnd : Nat) : Kept s (fillObservation s n low fillEnd) := by
  unfold fillObservation
  dsimp only
  split
  · exact (kept_landIfFull _ n).before ⟨rfl, rfl, rfl, rfl, rfl⟩
  · exact Kept.refl s

theorem kept_drainObservation (s : State) (n : Fin 8) (drainEnd : Nat) : Kept s (drainObservation s n drainEnd) := by
  unfold drainObservation
  split
  · unfold drainUnlanded
    dsimp only
    split <;> exact ⟨rfl, rfl, rfl, rfl, rfl⟩
  · split
    · unfold drainLanded
      dsimp only
      split
      · exact Kept.refl s
      · split
        · exact (kept_consume _ n).before ⟨rfl, rfl, rfl, rfl, rfl⟩
        · exact ⟨rfl, rfl, rfl, rfl, rfl⟩
    · exact Kept.refl s

theorem kept_declareLength (s : State) (n : Fin 8) (v : Nat) : Kept s (declareLength s n v) := by
  unfold declareLength
  dsimp only
  split
  · exact (kept_landIfFull _ n).before ⟨rfl, rfl, rfl, rfl, rfl⟩
  · exact (kept_setSlot s n _).trans (kept_landIfFull _ n)

/-! ### VU -/

theorem kept_noteRung (s : State) (rung : Nat) : Kept s (noteRung s rung) := by
  unfold noteRung
  dsimp only
  split <;> exact ⟨rfl, rfl, rfl, rfl, rfl⟩

theorem kept_capFitGo (s : State) (q : Request) (rung : Nat) : Kept s (capFitGo s q rung).2 := by
  unfold capFitGo
  split
  · exact kept_growTally s _ _
  · split
    · exact kept_growTally s _ _
    · exact (kept_noteRung _ _).before ⟨rfl, rfl, rfl, rfl, rfl⟩

theorem kept_decideFetch (s : State) (q : Request) : Kept s (decideFetch s q).2 := by
  have h : Kept s (if !requestValid s.windows q then refuse s (plainVerdict s .badreq q.stamp)
    else
      match s.liveHolding q.segment with
      | some n => refuse s (namingVerdict s .duplicate q.stamp n (s.slot n).rung)
      | none =>
        match s.overlapping q with
        | some n => refuse s (namingVerdict s .overlap q.stamp n 0)
        | none =>
          if s.lowestFree.isNone then refuse s (plainVerdict s .full q.stamp)
          else if s.setup.bFull ≤ s.bufferLevel then
            ({ timedVerdict s .hold q.stamp with holdUnits := holdUnits s.bufferLevel s.setup.bTarget },
              growTally s .holds 1)
          else capFitGo s q (rungStep s)).2 := by
    split
    · exact kept_growTally s _ _
    · split
      · exact kept_growTally s _ _
      · split
        · exact kept_growTally s _ _
        · split
          · exact kept_growTally s _ _
          · split
            · exact kept_growTally s _ _
            · exact kept_capFitGo s q _
  unfold decideFetch
  cases s.sc.governor <;> first | exact Kept.refl s | exact h

theorem kept_decideLength (s : State) (q : Request) : Kept s (decideLength s q).2 := by
  unfold decideLength
  split
  · exact kept_growTally s _ _
  · split
    · exact Kept.refl s
    · split
      · exact Kept.refl s
      · split
        · exact Kept.refl s
        · exact kept_declareLength s _ _

theorem kept_decideDrop (s : State) (q : Request) : Kept s (decideDrop s q).2 := by
  unfold decideDrop
  split
  · exact Kept.refl s
  · exact kept_freeSlot s _

theorem kept_decideRefetch (s : State) (q : Request) (old : Slot) : Kept s (decideRefetch s q old).2 := by
  unfold decideRefetch
  split
  · exact kept_growTally s _ _
  · split
    · exact kept_growTally s _ _
    · exact kept_capFitGo s q _

theorem kept_decideReplace (s : State) (q : Request) : Kept s (decideReplace s q).2 := by
  unfold decideReplace
  split <;> try exact Kept.refl s
  all_goals
    split
    · exact Kept.refl s
    · split
      · exact kept_growTally s _ _
      · exact (kept_freeSlot s _).trans (kept_decideRefetch _ q _)

theorem kept_decideRequest (s : State) (q : Request) : Kept s (decideRequest s q).2 := by
  unfold decideRequest
  split
  · exact kept_decideFetch s q
  · split
    · exact kept_decideLength s q
    · split
      · exact kept_decideDrop s q
      · split
        · exact kept_decideReplace s q
        · exact kept_growTally s _ _

theorem kept_closeTicket (s : State) (k : Fin 16) : Kept s (closeTicket s k) := by
  unfold closeTicket
  dsimp only
  split
  · exact kept_setTicket s k _
  · split
    · exact Kept.refl s
    · exact (kept_decideRequest s _).trans (kept_setTicket _ k _)

theorem kept_requestRun (s : State) (k : Fin 16) (bytes : List (Nat × Byte)) : Kept s (requestRun s k bytes) := by
  unfold requestRun
  split
  · exact (kept_setTicket s k _).trans (kept_closeTicket _ k)
  · exact kept_setTicket s k _

/-! ### SC and CCU -/

theorem kept_noteDirective (s : State) (code : Byte) (entry : Nat) (reason : DirectiveReason) :
    Kept s (noteDirective s code entry reason) := ⟨rfl, rfl, rfl, rfl, rfl⟩

theorem kept_takeRestart (s : State) : Kept s (takeRestart s) :=
  (kept_takeSnapshot _).before ⟨rfl, rfl, rfl, rfl, rfl⟩

theorem kept_takeEntry (s : State) (code : Byte) (argument : BitVec 32) (entry : Nat) :
    Kept s (takeEntry s code argument entry) := by
  have arm : Kept s (takeArm s entry) := by unfold takeArm; split <;> exact ⟨rfl, rfl, rfl, rfl, rfl⟩
  have suspend : Kept s (takeSuspend s entry) := by unfold takeSuspend; split <;> exact ⟨rfl, rfl, rfl, rfl, rfl⟩
  have resume : Kept s (takeResume s entry) := by unfold takeResume; split <;> exact ⟨rfl, rfl, rfl, rfl, rfl⟩
  have teardown : Kept s (takeTeardown s entry) := by unfold takeTeardown; split <;> exact ⟨rfl, rfl, rfl, rfl, rfl⟩
  have seed : Kept s (seedEstimates s argument) := by
    unfold seedEstimates clearCongestion
    dsimp only
    split
    · exact (kept_reevaluateCongestion _).before ⟨rfl, rfl, rfl, rfl, rfl⟩
    · split <;> exact ⟨rfl, rfl, rfl, rfl, rfl⟩
  unfold takeEntry
  repeat' split
  all_goals first | assumption | exact ⟨rfl, rfl, rfl, rfl, rfl⟩

theorem kept_takeEntries (s : State) (entry : Nat) (l : List (Byte × BitVec 32)) : Kept s (takeEntries s entry l) := by
  induction l generalizing s entry with
  | nil => exact Kept.refl s
  | cons x rest ih =>
    obtain ⟨code, argument⟩ := x
    unfold takeEntries
    split
    · exact Kept.refl s
    · split
      · exact kept_takeRestart s
      · exact (kept_takeEntry s code argument entry).trans (ih _ _)

theorem kept_readinessTest (s : State) : Kept s (readinessTest s) := by
  unfold readinessTest
  split <;> exact ⟨rfl, rfl, rfl, rfl, rfl⟩

theorem kept_warmupTest (s : State) : Kept s (warmupTest s) := by
  unfold warmupTest
  split <;> exact ⟨rfl, rfl, rfl, rfl, rfl⟩

theorem kept_reportRejection (s : State) (p : Position) (reason : RejectReason) : Kept s (reportRejection s p reason) :=
  ⟨rfl, rfl, rfl, rfl, rfl⟩

theorem kept_settleExpires (s : State) (p : Position) : Kept s (settleExpires s p) := by
  unfold settleExpires
  dsimp only
  split
  · exact (kept_setPosition s p _).trans (kept_reportRejection _ p _)
  · exact kept_setPosition s p _

theorem kept_adoptRecord (s : State) (p : Position) : Kept s (adoptRecord s p) := by
  have content : Kept s (adoptContent s p) := by cases p <;> exact ⟨rfl, rfl, rfl, rfl, rfl⟩
  have stamps : ∀ t, Kept t (stampAdopted t p) := fun t => by cases p <;> exact ⟨rfl, rfl, rfl, rfl, rfl⟩
  have after : ∀ t, Kept t (afterAdoption t p) := fun t => by
    cases p
    · exact (kept_readinessTest t).trans (kept_warmupTest _)
    · exact kept_readinessTest t
    · exact kept_readinessTest t
    · exact kept_takeEntries t 0 _
  exact content.trans ((stamps _).trans (after _))

theorem kept_evaluate (s : State) (p : Position) : Kept s (evaluate s p) := by
  unfold evaluate rejectRecord
  dsimp only
  split
  · exact kept_setPosition s p _
  · split
    · exact kept_setPosition s p _
    · split
      · exact kept_setPosition s p _
      · split
        · exact (kept_setPosition s p _).trans (kept_reportRejection _ p _)
        · split
          · exact (kept_setPosition s p _).trans (kept_reportRejection _ p _)
          · exact kept_adoptRecord s p

theorem kept_controlRun (s : State) (p : Position) (bytes : List (Nat × Byte)) : Kept s (controlRun s p bytes) :=
  (kept_evaluate _ p).before ⟨rfl, rfl, rfl, rfl, rfl⟩

/-! ### Runs and expiries -/

theorem kept_handRuns {take : Area → List (Nat × Byte) → State → State} (h : ∀ area run s, Kept s (take area run s))
    (fuel : Nat) (bytes : List (Nat × Byte)) (s : State) : Kept s (handRuns take fuel bytes s) := by
  induction fuel generalizing bytes s with
  | zero => exact Kept.refl s
  | succ fuel ih =>
    cases bytes with
    | nil => exact Kept.refl s
    | cons ab rest => exact (h _ _ s).trans (ih _ _)

theorem kept_takeWriteRun (fills : Bool) (area : Area) (run : List (Nat × Byte)) (s : State) :
    Kept s (takeWriteRun fills area run s) := by
  cases area <;> simp only [takeWriteRun] <;>
    first
      | exact Kept.refl s
      | exact kept_controlRun s _ _
      | exact kept_requestRun s _ _
      | (split
         · exact kept_fillObservation s _ _ _
         · exact Kept.refl s)

theorem kept_takeReadRun (drains : Bool) (area : Area) (run : List (Nat × Byte)) (s : State) :
    Kept s (takeReadRun drains area run s) := by
  cases area <;> simp only [takeReadRun] <;>
    first
      | exact Kept.refl s
      | (split
         · exact kept_drainObservation s _ _
         · exact Kept.refl s)

/-- A write observed changes none of what no event touches (R19). -/
theorem kept_observeWrite (s : State) (w : BusWrite) : Kept s (observeWrite s w) :=
  kept_handRuns (kept_takeWriteRun _) _ _ s

/-- A read response observed changes none of what no event touches. -/
theorem kept_observeRead (s : State) (r : ReadResponse) : Kept s (observeRead s r) := by
  unfold observeRead snapshotIfHeader
  dsimp only
  split
  · exact (kept_takeSnapshot s).trans (kept_handRuns (kept_takeReadRun _) _ _ _)
  · exact kept_handRuns (kept_takeReadRun _) _ _ s

theorem kept_advise (s : State) (n : Fin 8) : Kept s (advise s n) := ⟨rfl, rfl, rfl, rfl, rfl⟩

theorem kept_stallExpires (s : State) (n : Fin 8) : Kept s (stallExpires s n) := by
  unfold stallExpires
  dsimp only
  split
  · exact (kept_advise _ n).before ⟨rfl, rfl, rfl, rfl, rfl⟩
  · exact ⟨rfl, rfl, rfl, rfl, rfl⟩

theorem kept_checkExpires (s : State) (n : Fin 8) : Kept s (checkExpires s n) := by
  unfold checkExpires
  dsimp only
  split
  · split
    · exact kept_advise s n
    · exact kept_setTimers s n _
  · exact kept_setTimers s n _

theorem kept_graceExpires (s : State) (n : Fin 8) : Kept s (graceExpires s n) :=
  ⟨rfl, rfl, rfl, rfl, rfl⟩

theorem kept_slotExpiries (s : State) (n : Fin 8) : Kept s (slotExpiries s n) := by
  have stall : Kept s (stallIfDue s n) := by
    unfold stallIfDue
    split
    · exact kept_stallExpires s n
    · exact Kept.refl s
  have check : ∀ t, Kept t (checkIfDue t n) := fun t => by
    unfold checkIfDue
    split
    · exact kept_checkExpires t n
    · exact Kept.refl t
  have grace : ∀ t, Kept t (graceIfDue t n) := fun t => by
    unfold graceIfDue
    split
    · exact kept_graceExpires t n
    · exact Kept.refl t
  exact stall.trans ((check _).trans (grace _))

theorem kept_settleExpiries (s : State) : Kept s (settleExpiries s) := by
  unfold settleExpiries
  split
  · exact Kept.refl s
  · exact kept_settleExpires s _
  · exact ((Kept.foldl kept_settleExpires _ s).trans (kept_settleExpires _ _)).trans ⟨rfl, rfl, rfl, rfl, rfl⟩

/-- The due expiries change none of what no event touches. -/
theorem kept_takeDueExpiries (s : State) : Kept s (takeDueExpiries s) :=
  (kept_settleExpiries s).trans (Kept.foldl kept_slotExpiries _ _)

end Sys2Proof.Machine
end

