-- ==== Sys2Proof/Laws/Path.lean ====
section
/-! SUPPORT. What a transaction does when all its bytes fall in one area: one run, taken whole by its owner. -/

namespace Sys2Proof.Machine

/-- Bytes that all fall in one area form one run. -/
theorem handRuns_of_allFallIn {s : State} {bytes : List (Nat × Byte)} {area : Area} (h : s.allFallIn bytes area = true)
    (take : Area → List (Nat × Byte) → State → State) : handRuns take bytes.length bytes s = take area bytes s := by
  cases bytes with
  | nil => simp [State.allFallIn] at h
  | cons ab rest =>
    simp only [State.allFallIn, List.isEmpty_cons, Bool.not_false, Bool.true_and, List.all_eq_true, decide_eq_true_eq,
      List.mem_cons, forall_eq_or_imp] at h
    have same : ∀ cd ∈ rest, decide (s.areaAt cd.1 = area) = true := fun cd hcd => by simp [h.2 cd hcd]
    simp only [List.length_cons, handRuns, h.1, List.dropWhile_eq_nil_iff.2 same, List.takeWhile_eq_self_iff.2 same]
    cases rest.length <;> rfl

/-- Fuel beyond the count of bytes changes nothing: each run takes at least one byte. -/
theorem handRuns_fuel (take : Area → List (Nat × Byte) → State → State) {fuel : Nat} {bytes : List (Nat × Byte)}
    (h : bytes.length ≤ fuel) (s : State) : handRuns take fuel bytes s = handRuns take bytes.length bytes s := by
  induction fuel using Nat.strong_induction_on generalizing bytes s with
  | _ fuel ih =>
    cases bytes with
    | nil => cases fuel <;> rfl
    | cons ab rest =>
      cases fuel with
      | zero => simp at h
      | succ fuel =>
        have hr : rest.length ≤ fuel := by simpa using h
        have hd := (List.dropWhile_sublist (fun cd : Nat × Byte => decide (s.areaAt cd.1 = s.areaAt ab.1)) (l := rest)).length_le
        simp only [List.length_cons, handRuns]
        rw [ih fuel (Nat.lt_succ_self _) (hd.trans hr)]
        rcases Nat.lt_or_ge rest.length fuel with hlt | hge
        · exact (ih rest.length (Nat.lt_succ_of_lt hlt) hd _).symm
        · rw [Nat.le_antisymm hr hge, ih fuel (Nat.lt_succ_self _) (hd.trans hr)]

/-- A first run taken whole, and the rest handed on from the state that it left (R19). -/
theorem handRuns_append {s : State} {lower upper : List (Nat × Byte)} {area : Area} (h : s.allFallIn lower area = true)
    (hu : ∀ ab ∈ upper.head?, s.areaAt ab.1 ≠ area) (take : Area → List (Nat × Byte) → State → State) :
    handRuns take (lower ++ upper).length (lower ++ upper) s = handRuns take upper.length upper (take area lower s) := by
  cases lower with
  | nil => simp [State.allFallIn] at h
  | cons ab rest =>
    simp only [State.allFallIn, List.isEmpty_cons, Bool.not_false, Bool.true_and, List.all_eq_true, decide_eq_true_eq,
      List.mem_cons, forall_eq_or_imp] at h
    have same : ∀ cd ∈ rest, decide (s.areaAt cd.1 = area) = true := fun cd hcd => by simp [h.2 cd hcd]
    have other : upper.takeWhile (fun cd => decide (s.areaAt cd.1 = area)) = []
        ∧ upper.dropWhile (fun cd => decide (s.areaAt cd.1 = area)) = upper := by
      cases upper with
      | nil => exact ⟨rfl, rfl⟩
      | cons cd _ =>
        have := hu cd (by simp)
        simp [this]
    simp only [List.cons_append, List.length_cons, handRuns, h.1, List.takeWhile_append_of_pos same,
      List.dropWhile_append_of_pos same, other.1, other.2, List.append_nil]
    exact handRuns_fuel take (by simp) _

/-- Two areas under one bound: where a byte falls does not change when the page base and the slots' windows do not. -/
theorem areaAt_congr {s t : State} (hp : t.pif.pageBase = s.pif.pageBase) (hs : ∀ n, t.slot n = s.slot n) (a : Nat) :
    t.areaAt a = s.areaAt a := by
  simp [State.areaAt, State.inPage, State.windowAt, hp, hs]

theorem State.writeFallsIn_iff (s : State) (w : BusWrite) (area : Area) :
    s.writeFallsIn w area = true ↔ s.takesEvents = true ∧ s.allFallIn (strobedBytes w) area = true := by
  simp [State.writeFallsIn]

theorem State.readFallsIn_iff (s : State) (r : ReadResponse) (area : Area) :
    s.readFallsIn r area = true ↔ s.takesEvents = true ∧ r.status = .ok ∧ r.spansReset = false
      ∧ s.allFallIn (addressed r.addr.toNat r.data) area = true := by
  simp [State.readFallsIn, and_assoc]

/-- A write all of whose strobed bytes fall in one area is forwarded and taken as one run (R19, R21, R24). -/
theorem writeTransaction_of_writeFallsIn {s : State} {w : BusWrite} {area : Area} (h : s.writeFallsIn w area = true) :
    writeTransaction s w = takeWriteRun (s.fillMatches w.tag) area (strobedBytes w) (forwardWrite s w) := by
  rw [State.writeFallsIn_iff] at h
  rw [writeTransaction_of_takesEvents h.1, observeWrite]
  exact handRuns_of_allFallIn (s := forwardWrite s w) h.2 _

/-- A read response with status OK all of whose bytes fall in one area: a snapshot if it touches the header line, one run, and the
data substituted (R19, R25, R29). -/
theorem readTransaction_of_readFallsIn {s : State} {r : ReadResponse} {area : Area} (h : s.readFallsIn r area = true) :
    let bytes := addressed r.addr.toNat r.data
    let observed := takeReadRun (s.drainMatches r.tag) area bytes (snapshotIfHeader s bytes)
    readTransaction s r = returnRead observed r (substitutedData observed r) := by
  rw [State.readFallsIn_iff] at h
  obtain ⟨h1, h2, h3, h4⟩ := h
  have snapshotArea : ∀ a, (snapshotIfHeader s (addressed r.addr.toNat r.data)).areaAt a = s.areaAt a := fun a => by
    unfold snapshotIfHeader
    split
    · exact areaAt_congr (by simp) (fun n => takeSnapshot_slot s n) a
    · rfl
  have h5 : (snapshotIfHeader s (addressed r.addr.toNat r.data)).allFallIn (addressed r.addr.toNat r.data) area = true := by
    simpa [State.allFallIn, snapshotArea] using h4
  have h6 : observeRead s r = takeReadRun (s.drainMatches r.tag) area (addressed r.addr.toNat r.data)
      (snapshotIfHeader s (addressed r.addr.toNat r.data)) := handRuns_of_allFallIn h5 _
  rw [readTransaction_of_takesEvents h1, readReleased, if_neg (by simp [h2, h3]), h6]

/-- The addresses of strobed bytes rise strictly from the start address on. -/
theorem mem_strobedFrom {a : Nat} {lanes : List Lane} {x : Nat × Byte} :
    x ∈ strobedFrom a lanes ↔ ∃ i, ∃ h : i < lanes.length, lanes[i].strobe = true ∧ x = (a + i, lanes[i].data) := by
  induction lanes generalizing a with
  | nil => simp [strobedFrom]
  | cons l rest ih =>
    have key : (∃ i, ∃ h : i < (l :: rest).length, (l :: rest)[i].strobe = true ∧ x = (a + i, (l :: rest)[i].data)) ↔
        (l.strobe = true ∧ x = (a, l.data)) ∨
          ∃ i, ∃ h : i < rest.length, rest[i].strobe = true ∧ x = (a + 1 + i, rest[i].data) := by
      constructor
      · rintro ⟨i, hi, h1, h2⟩
        cases i with
        | zero => exact .inl ⟨h1, h2⟩
        | succ i => exact .inr ⟨i, by simpa using hi, h1, by simpa [Nat.add_assoc, Nat.add_comm 1] using h2⟩
      · rintro (⟨h1, h2⟩ | ⟨i, hi, h1, h2⟩)
        · exact ⟨0, by simp, h1, h2⟩
        · exact ⟨i + 1, by simpa using hi, h1, by simpa [Nat.add_assoc, Nat.add_comm 1] using h2⟩
    rw [key, strobedFrom]
    split
    · rename_i h; simp [ih, h]
    · rename_i h; simp [ih, h]

theorem length_addressed (a : Nat) (data : List Byte) : (addressed a data).length = data.length := by
  induction data generalizing a with
  | nil => rfl
  | cons b rest ih => simp [addressed, ih]

theorem getElem_addressed (a : Nat) (data : List Byte) (i : Nat) (h : i < (addressed a data).length) :
    (addressed a data)[i] = (a + i, data[i]'(by simpa [length_addressed] using h)) := by
  induction data generalizing a i with
  | nil => simp [addressed] at h
  | cons b rest ih =>
    cases i with
    | zero => rfl
    | succ i => simp [addressed, ih, Nat.add_assoc, Nat.add_comm 1]

/-- The data returned are as many as the data received. -/
@[simp] theorem length_substitutedData (s : State) (r : ReadResponse) : (substitutedData s r).length = r.data.length := by
  simp [substitutedData, length_addressed]

/-! ### Windows -/

/-- A byte that falls in a slot's window lies off the governor page, in the window of that live slot (R20, R24). -/
theorem window_of_areaAt {s : State} {a : Nat} {n : Fin 8} (h : s.areaAt a = .window n) :
    s.inPage a = false ∧ (s.slot n).covers a = true ∧ (s.slot n).state.live = true := by
  unfold State.areaAt at h
  split at h
  · exfalso
    unfold pageArea at h
    (repeat' split at h) <;> simp at h
  · rename_i hp
    split at h <;> simp at h
    subst h
    rename_i hw
    have := (find_allSlots_eq_some.1 hw).1
    simp only [Bool.and_eq_true] at this
    exact ⟨by simpa using hp, this.2, this.1⟩

/-- A byte in a report-header line is not in a window. -/
theorem not_inHeaderLine_of_window {s : State} {bytes : List (Nat × Byte)} {n : Fin 8}
    (h : s.allFallIn bytes (.window n) = true) : bytes.any (fun ab => s.inHeaderLine ab.1) = false := by
  simp only [State.allFallIn, Bool.and_eq_true, List.all_eq_true, decide_eq_true_eq] at h
  rw [List.any_eq_false]
  intro ab hab
  simp [State.inHeaderLine, (window_of_areaAt (h.2 ab hab)).1]

/-- A read that falls in a window takes no snapshot (R29). -/
theorem snapshotIfHeader_of_window {s : State} {bytes : List (Nat × Byte)} {n : Fin 8}
    (h : s.allFallIn bytes (.window n) = true) : snapshotIfHeader s bytes = s := by
  unfold snapshotIfHeader
  rw [not_inHeaderLine_of_window h]
  rfl

/-- One above the highest address of a read. -/
theorem runEnd_addressed (a : Nat) (data : List Byte) (h : data ≠ []) : runEnd (addressed a data) = a + data.length := by
  induction data generalizing a with
  | nil => simp at h
  | cons b rest ih =>
    cases rest with
    | nil => simp [addressed, runEnd]
    | cons c rest =>
      have := ih (a + 1) (by simp)
      simp only [addressed, runEnd, List.getLast?_cons_cons] at this ⊢
      rw [this]
      simp only [List.length_cons]
      omega

/-- Off the governor page every byte is the DRAM controller's (R31). -/
theorem substitutedByte_of_not_inPage {s : State} {a : Nat} (h : s.inPage a = false) (b : Byte) :
    substitutedByte s a b = b := by
  unfold substitutedByte State.areaAt
  simp only [h, Bool.false_eq_true, if_false]
  cases s.windowAt a <;> rfl

/-- A read that falls in a window of `s` is returned with the DRAM controller's data (R17, R31). -/
theorem substitutedData_of_window {s t : State} {r : ReadResponse} {n : Fin 8}
    (h : s.allFallIn (addressed r.addr.toNat r.data) (.window n) = true) (hp : t.pif = s.pif) :
    substitutedData t r = r.data := by
  simp only [State.allFallIn, Bool.and_eq_true, List.all_eq_true, decide_eq_true_eq] at h
  have key : ∀ (l : List Byte) (a : Nat), (∀ x ∈ addressed a l, s.areaAt x.1 = .window n) →
      (addressed a l).map (fun ab => substitutedByte t ab.1 ab.2) = l := by
    intro l
    induction l with
    | nil => intro a _; rfl
    | cons b rest ih =>
      intro a ha
      have h1 := (window_of_areaAt (ha (a, b) (by simp [addressed]))).1
      have h2 : t.inPage a = false := by rw [← h1]; simp [State.inPage, hp]
      simp only [addressed, List.map_cons, ih (a + 1) (fun x hx => ha x (by simp [addressed, hx])),
        substitutedByte_of_not_inPage h2]
  exact key _ _ h.2

/-- A drain read that falls in one slot's window is handed to STU with its end, and returned as it came (R17, R25). -/
theorem readTransaction_of_window {s : State} {r : ReadResponse} {n : Fin 8} (h : s.readFallsIn r (.window n) = true)
    (hd : s.drainMatches r.tag = true)
    (hk : (drainObservation s n (r.addr.toNat + r.data.length - (s.slot n).base)).pif = s.pif) :
    readTransaction s r =
      returnRead (drainObservation s n (r.addr.toNat + r.data.length - (s.slot n).base)) r r.data := by
  have hf := ((State.readFallsIn_iff _ _ _).1 h).2.2.2
  have hne : r.data ≠ [] := by
    intro h0; rw [h0] at hf; simp [State.allFallIn, addressed] at hf
  have htr := readTransaction_of_readFallsIn h
  simp only [snapshotIfHeader_of_window hf, takeReadRun, hd, if_true, runEnd_addressed _ _ hne] at htr
  rw [htr, substitutedData_of_window hf hk]

end Sys2Proof.Machine
end

