-- ==== Sys2Proof/Laws/PerInstr.lean ====
section
/-! SUPPORT. The per-command family: what a well-formed command's transaction covers. -/

namespace Sys2Proof.Laws

open Sys2Proof.Machine

/-- A transaction of a well-formed command covers 1..256 byte positions (R18), every one at a 40-bit address (section 0.6). -/
def TransactionFits.Statement (i : Instr) : Prop :=
  i.wellFormed = true →
    (∀ w, writeOf i = some w →
      1 ≤ w.lanes.length ∧ w.lanes.length ≤ 256 ∧ w.addr.toNat + w.lanes.length ≤ 2 ^ 40)
    ∧ ∀ r, readOf i = some r → 1 ≤ r.data.length ∧ r.data.length ≤ 256 ∧ r.addr.toNat + r.data.length ≤ 2 ^ 40

/-- A write command's transaction. -/
theorem fits_of_write {i : Instr} {w : BusWrite} (hw : writeOf i = some w) (hr : readOf i = none)
    (hi : i.wellFormed = w.wellFormed) : TransactionFits.Statement i := by
  intro h
  rw [hi] at h
  simp only [BusWrite.wellFormed, lengthFits, endFits, Bool.and_eq_true, decide_eq_true_eq] at h
  refine ⟨fun v hv => ?_, fun r h0 => by simp [hr] at h0⟩
  rw [hw] at hv
  cases hv
  exact ⟨h.1.1, h.1.2, h.2⟩

/-- A read command's transaction. -/
theorem fits_of_read {i : Instr} {r : ReadResponse} (hw : writeOf i = none) (hr : readOf i = some r)
    (hi : i.wellFormed = r.wellFormed) : TransactionFits.Statement i := by
  intro h
  rw [hi] at h
  simp only [ReadResponse.wellFormed, lengthFits, endFits, Bool.and_eq_true, decide_eq_true_eq] at h
  refine ⟨fun w h0 => by simp [hw] at h0, fun v hv => ?_⟩
  rw [hr] at hv
  cases hv
  exact ⟨h.1.1, h.1.2, h.2⟩

/-- A command that is no transaction. -/
theorem fits_of_none {i : Instr} (hw : writeOf i = none) (hr : readOf i = none) : TransactionFits.Statement i :=
  fun _ => ⟨fun w h => by simp [hw] at h, fun r h => by simp [hr] at h⟩

theorem TransactionFits.hardwareReset : TransactionFits.Statement .hardwareReset := fits_of_none rfl rfl
theorem TransactionFits.rstRelease (pageBase : BitVec 28) (prescaler : BitVec 16) (revision : Byte) :
    TransactionFits.Statement (.rstRelease pageBase prescaler revision) := fits_of_none rfl rfl
theorem TransactionFits.tick : TransactionFits.Statement .tick := fits_of_none rfl rfl
theorem TransactionFits.fillWrite (w : BusWrite) : TransactionFits.Statement (.fillWrite w) := fits_of_write rfl rfl rfl
theorem TransactionFits.drainRead (r : ReadResponse) : TransactionFits.Statement (.drainRead r) := fits_of_read rfl rfl rfl
theorem TransactionFits.headerLineRead (r : ReadResponse) : TransactionFits.Statement (.headerLineRead r) := fits_of_read rfl rfl rfl
theorem TransactionFits.setup (w : BusWrite) : TransactionFits.Statement (.setup w) := fits_of_write rfl rfl rfl
theorem TransactionFits.ladder (w : BusWrite) : TransactionFits.Statement (.ladder w) := fits_of_write rfl rfl rfl
theorem TransactionFits.windows (w : BusWrite) : TransactionFits.Statement (.windows w) := fits_of_write rfl rfl rfl
theorem TransactionFits.directive (w : BusWrite) : TransactionFits.Statement (.directive w) := fits_of_write rfl rfl rfl
theorem TransactionFits.arm (entry : Fin 6) : TransactionFits.Statement (.arm entry) := fits_of_none rfl rfl
theorem TransactionFits.suspend (entry : Fin 6) : TransactionFits.Statement (.suspend entry) := fits_of_none rfl rfl
theorem TransactionFits.resume (entry : Fin 6) : TransactionFits.Statement (.resume entry) := fits_of_none rfl rfl
theorem TransactionFits.flush : TransactionFits.Statement .flush := fits_of_none rfl rfl
theorem TransactionFits.teardown (entry : Fin 6) : TransactionFits.Statement (.teardown entry) := fits_of_none rfl rfl
theorem TransactionFits.restart : TransactionFits.Statement .restart := fits_of_none rfl rfl
theorem TransactionFits.seed (rate : BitVec 32) : TransactionFits.Statement (.seed rate) := fits_of_none rfl rfl
theorem TransactionFits.clearTallies : TransactionFits.Statement .clearTallies := fits_of_none rfl rfl
theorem TransactionFits.ack (mask : BitVec 32) : TransactionFits.Statement (.ack mask) := fits_of_none rfl rfl
theorem TransactionFits.enable (mask : BitVec 32) : TransactionFits.Statement (.enable mask) := fits_of_none rfl rfl
theorem TransactionFits.unknownDirective (code : Byte) (entry : Fin 6) :
    TransactionFits.Statement (.unknownDirective code entry) := fits_of_none rfl rfl
theorem TransactionFits.requestHalfWrite (w : BusWrite) : TransactionFits.Statement (.requestHalfWrite w) := fits_of_write rfl rfl rfl
theorem TransactionFits.entryClear (w : BusWrite) : TransactionFits.Statement (.entryClear w) := fits_of_write rfl rfl rfl
theorem TransactionFits.fetch (w : BusWrite) : TransactionFits.Statement (.fetch w) := fits_of_write rfl rfl rfl
theorem TransactionFits.length (w : BusWrite) : TransactionFits.Statement (.length w) := fits_of_write rfl rfl rfl
theorem TransactionFits.drop (w : BusWrite) : TransactionFits.Statement (.drop w) := fits_of_write rfl rfl rfl
theorem TransactionFits.replace (w : BusWrite) : TransactionFits.Statement (.replace w) := fits_of_write rfl rfl rfl
theorem TransactionFits.unknownKind (w : BusWrite) : TransactionFits.Statement (.unknownKind w) := fits_of_write rfl rfl rfl
theorem TransactionFits.plainWrite (w : BusWrite) : TransactionFits.Statement (.plainWrite w) := fits_of_write rfl rfl rfl
theorem TransactionFits.settleExpiry (p : Position) : TransactionFits.Statement (.settleExpiry p) := fits_of_none rfl rfl
theorem TransactionFits.stallExpiry (n : Fin 8) : TransactionFits.Statement (.stallExpiry n) := fits_of_none rfl rfl
theorem TransactionFits.checkExpiry (n : Fin 8) : TransactionFits.Statement (.checkExpiry n) := fits_of_none rfl rfl
theorem TransactionFits.graceExpiry (n : Fin 8) : TransactionFits.Statement (.graceExpiry n) := fits_of_none rfl rfl
theorem TransactionFits.closingWriteSameStamp (w : BusWrite) : TransactionFits.Statement (.closingWriteSameStamp w) := fits_of_write rfl rfl rfl
theorem TransactionFits.refclkPeriod : TransactionFits.Statement .refclkPeriod := fits_of_none rfl rfl

end Sys2Proof.Laws
end

