-- ==== Sys2Proof/Laws/Records.lean ====
section
/-! SUPPORT. What a write to a record position does, by the case of R135 it meets. -/

namespace Sys2Proof.Machine

/-- The state in which a write to the control area has been forwarded and captured, before its position is evaluated (R17, R133). -/
def State.captured (s : State) (w : BusWrite) : State :=
  { s with ports := { s.ports with write := some w }, ccu := { s.ccu with shadow := s.shadowAfter w } }

@[simp] theorem captured_position (s : State) (w : BusWrite) (p : Position) : (s.captured w).position p = s.position p := by
  cases p <;> rfl

@[simp] theorem captured_shadowStamp (s : State) (w : BusWrite) (p : Position) :
    shadowStamp (s.captured w) p = s.stampAfter p w := rfl

@[simp] theorem captured_anyLive (s : State) (w : BusWrite) : (s.captured w).anyLive = s.anyLive := rfl

@[simp] theorem captured_shadow (s : State) (w : BusWrite) : (s.captured w).ccu.shadow = s.shadowAfter w := rfl

theorem presents_iff (s : State) (p : Position) (w : BusWrite) : s.presents p w = true ↔
    s.writeFallsIn w (.control p) = true ∧ checkMatches (s.shadowAfter w) p = true ∧ s.stampAfter p w ≠ 0
      ∧ s.stampAfter p w ≠ (s.position p).adoptedStamp ∧ s.stampAfter p w ≠ (s.position p).rejectedStamp := by
  simp [State.presents, and_assoc]

/-- A write to a record position is captured, then its position is evaluated (R133, R135). -/
theorem writeTransaction_control {s : State} {w : BusWrite} {p : Position} (h : s.writeFallsIn w (.control p) = true) :
    writeTransaction s w = evaluate (s.captured w) p := by
  rw [writeTransaction_of_writeFallsIn h]; rfl

/-- A whole record under a new stamp: the shape and INUSE tests, then adoption (R135, R138). -/
theorem writeTransaction_presents {s : State} {w : BusWrite} {p : Position} (h : s.presents p w = true) :
    writeTransaction s w =
      if !shapePasses (s.captured w) p then rejectRecord (s.captured w) p .shape
      else if inUse (s.captured w) p then rejectRecord (s.captured w) p .inuse
      else adoptRecord (s.captured w) p := by
  rw [presents_iff] at h
  obtain ⟨h1, h2, h3, h4, h5⟩ := h
  rw [writeTransaction_control h1]
  simp only [evaluate, captured_shadowStamp, captured_position, captured_shadow, h2, if_neg h3, h4, h5, or_self, if_false,
    Bool.not_true, Bool.false_eq_true]

/-- Every write command on a record position runs the write transaction. -/
theorem exec_recordWrite (s : State) (p : Position) (w : BusWrite) :
    exec (recordWrite p w) s = .next (writeTransaction s w) := by cases p <;> rfl

/-! ### The check code in pieces (R134) -/

/-- Bytes fed in two pieces. -/
theorem feedFrom_add (m : ByteStore) (reg : BitVec 16) (offset a b : Nat) :
    feedFrom m reg offset (a + b) = feedFrom m (feedFrom m reg offset a) (offset + a) b := by
  induction a generalizing reg offset with
  | zero => simp [feedFrom]
  | succ a ih => rw [Nat.add_right_comm, feedFrom, ih, feedFrom, Nat.add_assoc, Nat.add_comm 1]

/-- A check code and a check field that agree (R134, step 4). -/
theorem checkMatches_of {m : ByteStore} {p : Position} {code : BitVec 16} (hc : checkCode m p = code)
    (hf : readField m (positionOffset p + positionSize p - 2) 2 = code.toNat) : checkMatches m p = true := by
  rw [checkMatches, hc, hf]; simp

end Sys2Proof.Machine
end

