-- ==== Sys2Proof/Laws/Slots.lean ====
section
/-! SUPPORT. What a sample, a consumption and a landing leave alone, and the two cases of a fill observation. -/

namespace Sys2Proof.Machine

/-! ### Samples -/

/-- The congestion re-evaluation changes the congestion state and the CONGEST flag alone (R74). -/
theorem reevaluateCongestion_eq (s : State) : reevaluateCongestion s =
    { s with
      te := { s.te with
        congestion := congestionAfter s.te.congestion s.te.fast s.te.slow s.setup.rhoIn s.setup.rhoOut }
      eru := { s.eru with
        flags :=
          if congestionAfter s.te.congestion s.te.fast s.te.slow s.setup.rhoIn s.setup.rhoOut = s.te.congestion then
            s.eru.flags
          else s.eru.flags ||| flagBit .congest } } := by
  unfold reevaluateCongestion
  dsimp only
  split
  · rename_i h; simp [h]
  · simp [raiseFlag]

theorem takeSample_stu (s : State) (x : Sample) : (takeSample s x).stu = s.stu := by
  unfold takeSample
  split
  · rfl
  · simp only [takePassedSample, countWarmup, reevaluateCongestion_eq]

theorem takeSample_pm (s : State) (x : Sample) : (takeSample s x).pm = s.pm := by
  unfold takeSample
  split
  · rfl
  · simp only [takePassedSample, countWarmup, reevaluateCongestion_eq]

theorem takeSample_ccu (s : State) (x : Sample) : (takeSample s x).ccu = s.ccu := by
  unfold takeSample
  split
  · rfl
  · simp only [takePassedSample, countWarmup, reevaluateCongestion_eq]

theorem takeSample_vu (s : State) (x : Sample) : (takeSample s x).vu = s.vu := by
  unfold takeSample
  split
  · rfl
  · simp only [takePassedSample, countWarmup, reevaluateCongestion_eq]

/-! ### Consumption (R48) -/

/-- A slot consumed: freed, and UNDERRUN with its tally when the next segment is still on its way (R48, R54). -/
theorem consume_eq (s : State) (n : Fin 8) : consume s n =
    if (s.slot n).segment < 2 ^ 32 - 1 ∧ ((freeSlot s n).unlandedHolding ((s.slot n).segment + 1)).isSome = true then
      reportEvent (freeSlot s n) .underrun .underruns
    else freeSlot s n := rfl

theorem consume_stu (s : State) (n : Fin 8) : (consume s n).stu = (freeSlot s n).stu := by
  rw [consume_eq]; split <;> rfl

theorem consume_pm (s : State) (n : Fin 8) : (consume s n).pm = (freeSlot s n).pm := by
  rw [consume_eq]; split <;> rfl

/-! ### Landing (R44) -/

/-- A landing's record, queue and timers, before an earlier drain is credited (R44, steps 1 to 3). -/
def landedTable (s : State) (n : Fin 8) : State :=
  ((s.setSlot n (s.slot n).landedRecord).setQueue (queueWith s n)).setTimers n SlotTimers.stopped

/-- A landing: the table, the sample, the tally, and the credit of an earlier drain (R44). -/
theorem land_eq (s : State) (n : Fin 8) :
    land s n = landRead (growTally (takeSample (landedTable s n) (sampleOf (s.slot n) s.now)) .landed 1) n := rfl

/-- The slot table and the timers that a landing hands to its last step. -/
theorem land_before_credit (s : State) (n : Fin 8) (x : Sample) :
    (growTally (takeSample (landedTable s n) x) .landed 1).stu = (landedTable s n).stu
      ∧ (growTally (takeSample (landedTable s n) x) .landed 1).pm = (landedTable s n).pm :=
  ⟨takeSample_stu _ _, takeSample_pm _ _⟩

/-! ### Fill observations (R38, R39) -/

/-- The state after a counted fill write, before any landing (R38, R115, R116). -/
def countedFill (s : State) (n : Fin 8) (fillEnd : Nat) : State :=
  (s.setSlot n ((s.slot n).filled fillEnd s.now s.setup.gapLimit)).setTimers n
    (timersAfterFill (s.timers n) (decide ((s.slot n).state = .issued)) s.now s.setup)

/-- A fill observation is counted, and lands the slot when its fill mark is then its length, or it changes nothing (R38 to R40). -/
theorem fillObservation_eq (s : State) (n : Fin 8) (low fillEnd : Nat) : fillObservation s n low fillEnd =
    if ((s.slot n).state.unlanded && (s.slot n).counts low) = true then landIfFull (countedFill s n fillEnd) n else s := rfl

end Sys2Proof.Machine
end

