-- ==== Sys2Proof/Laws/Verdicts.lean ====
section
/-! SUPPORT. What a write to a request half does, by the case of R92 it meets, and what the steps of a decision can answer. -/

namespace Sys2Proof.Machine

/-- The state in which a write to ticket `k`'s request half has been forwarded and is in the request shadow (R17, R91). -/
def State.shadowed (s : State) (k : Fin 16) (w : BusWrite) : State :=
  { s with
    ports := { s.ports with write := some w }
    vu := { s.vu with tickets := s.vu.tickets.set k { s.ticket k with shadow := s.requestAfter k w } } }

@[simp] theorem shadowed_ticket (s : State) (k : Fin 16) (w : BusWrite) :
    (s.shadowed k w).ticket k = { s.ticket k with shadow := s.requestAfter k w } := by
  simp [State.shadowed, State.ticket]

theorem closes_iff (s : State) (k : Fin 16) (w : BusWrite) : s.closes k w = true ↔
    s.writeFallsIn w (.request k) = true ∧ (s.halfBytes k w).any (fun ab => decide (ab.1 = 0)) = true := by
  simp [State.closes]

theorem brings_iff (s : State) (k : Fin 16) (w : BusWrite) (q : Request) : s.brings k w q = true ↔
    s.closes k w = true ∧ readRequest (s.requestAfter k w) = q ∧ q.stamp ≠ 0 ∧ q.stamp ≠ (s.ticket k).stamp := by
  simp [State.brings, and_assoc]

/-- A write to a request half: into the shadow, then the closing write if it strobes byte 0 (R91, R92). -/
theorem writeTransaction_request {s : State} {k : Fin 16} {w : BusWrite} (h : s.writeFallsIn w (.request k) = true) :
    writeTransaction s w = if s.closes k w = true then closeTicket (s.shadowed k w) k else s.shadowed k w := by
  have hc : s.closes k w = (s.halfBytes k w).any (fun ab => decide (ab.1 = 0)) := by simp [State.closes, h]
  rw [writeTransaction_of_writeFallsIn h, hc]
  rfl

/-- A closing write that brings a request: the request is decided, and its answer latched (R92, R93). -/
theorem writeTransaction_brings {s : State} {k : Fin 16} {w : BusWrite} {q : Request} (h : s.brings k w q = true) :
    writeTransaction s w =
      latch (decideRequest (s.shadowed k w) q).2 k (decideRequest (s.shadowed k w) q).1 q.stamp := by
  rw [brings_iff] at h
  obtain ⟨h1, h2, h3, h4⟩ := h
  rw [writeTransaction_request ((closes_iff s k w).1 h1).1, if_pos h1]
  have hs : readByte (s.requestAfter k w) 0 = q.stamp := by rw [← h2]; rfl
  simp only [closeTicket, shadowed_ticket, hs, if_neg h3, if_neg h4, takeRequest, h2]

/-- The validity step (R99). -/
theorem requestValid_iff (w : Windows) (q : Request) : requestValid w q = true ↔
    1 ≤ q.duration ∧ q.duration ≤ 20000 ∧ 1 ≤ q.capacity ∧ q.capacity ≤ w.maxCapacity ∧ q.base < 2 ^ 40
      ∧ w.low ≤ q.base ∧ q.base + q.capacity ≤ w.high := by
  simp only [requestValid, Bool.and_eq_true, decide_eq_true_eq, and_assoc]

/-- Two windows share a byte, or one lies wholly below the other (R100). -/
theorem windowsShare_eq_true {b1 c1 b2 c2 : Nat} : windowsShare b1 c1 b2 c2 = true ↔ b1 < b2 + c2 ∧ b2 < b1 + c1 := by
  simp [windowsShare]

theorem windowsShare_eq_false {b1 c1 b2 c2 : Nat} : windowsShare b1 c1 b2 c2 = false ↔ b2 + c2 ≤ b1 ∨ b1 + c1 ≤ b2 := by
  rw [← Bool.not_eq_true, windowsShare_eq_true]; omega

theorem overlapping_eq_some {s : State} {q : Request} {n : Fin 8} : s.overlapping q = some n ↔
    ((s.slot n).state.live = true ∧ windowsShare q.base q.capacity (s.slot n).base (s.slot n).capacity = true)
      ∧ ∀ m, m < n → ¬ ((s.slot m).state.live = true
        ∧ windowsShare q.base q.capacity (s.slot m).base (s.slot m).capacity = true) := by
  rw [State.overlapping, find_allSlots_eq_some]
  simp [← Bool.not_eq_true]

theorem overlapping_eq_none {s : State} {q : Request} : s.overlapping q = none ↔
    ∀ n, ¬ ((s.slot n).state.live = true ∧ windowsShare q.base q.capacity (s.slot n).base (s.slot n).capacity = true) := by
  rw [State.overlapping, find_allSlots_eq_none]
  simp [← Bool.not_eq_true]

/-- A capacity fit that finds a rung: at or below the one it began at, its bytes within the capacity, and no higher one does fit (R106). -/
theorem capacityFit_some {l : Ladder} {duration capacity j k e : Nat} (h : capacityFit l duration capacity j = some (k, e)) :
    k ≤ j ∧ e = expectedBytes l k duration ∧ e ≤ capacity ∧ ∀ i, k < i → i ≤ j → capacity < expectedBytes l i duration := by
  induction j with
  | zero =>
    unfold capacityFit at h
    split at h
    · simp only [Option.some.injEq, Prod.mk.injEq] at h
      obtain ⟨rfl, rfl⟩ := h
      exact ⟨le_refl 0, rfl, by assumption, fun i h1 h2 => by omega⟩
    · simp at h
  | succ j ih =>
    unfold capacityFit at h
    split at h
    · simp only [Option.some.injEq, Prod.mk.injEq] at h
      obtain ⟨rfl, rfl⟩ := h
      exact ⟨le_refl _, rfl, by assumption, fun i h1 h2 => by omega⟩
    · rename_i hj
      obtain ⟨h1, h2, h3, h4⟩ := ih h
      refine ⟨by omega, h2, h3, fun i h5 h6 => ?_⟩
      rcases Nat.lt_or_ge j i with h7 | h7
      · have : i = j + 1 := by omega
        subst this; omega
      · exact h4 i h5 h7

/-- A capacity fit that finds none: no rung at or below the one it began at fits (R106). -/
theorem capacityFit_none {l : Ladder} {duration capacity j : Nat} (h : capacityFit l duration capacity j = none) :
    ∀ i, i ≤ j → capacity < expectedBytes l i duration := by
  induction j with
  | zero =>
    unfold capacityFit at h
    split at h
    · simp at h
    · intro i hi
      have : i = 0 := by omega
      subst this; omega
  | succ j ih =>
    unfold capacityFit at h
    split at h
    · simp at h
    · intro i hi
      rcases Nat.lt_or_ge j i with h7 | h7
      · have : i = j + 1 := by omega
        subst this; omega
      · exact ih h i h7

/-- The one fit there is: a rung that fits with no higher one fitting is what the search finds (R106). -/
theorem capacityFit_eq {l : Ladder} {duration capacity j k : Nat} (hk : k ≤ j) (hf : expectedBytes l k duration ≤ capacity)
    (hh : ∀ i, k < i → i ≤ j → capacity < expectedBytes l i duration) :
    capacityFit l duration capacity j = some (k, expectedBytes l k duration) := by
  cases h : capacityFit l duration capacity j with
  | none => have := capacityFit_none h k hk; omega
  | some ke =>
    obtain ⟨k', e⟩ := ke
    obtain ⟨h1, h2, h3, h4⟩ := capacityFit_some h
    have : k' = k := by
      rcases Nat.lt_trichotomy k' k with h5 | h5 | h5
      · have := h4 k h5 hk; omega
      · exact h5
      · have := hh k' h5 h1; omega
    subst this
    rw [h2]

/-- What the cap, capacity-fit and GO steps can answer: FULL with no slot FREE, SMALL with no rung that fits, or GO on the lowest
FREE slot at the rung the capacity fit finds (R105 to R107). -/
theorem capFitGo_cases (s : State) (q : Request) (rung : Nat) :
    (s.lowestFree = none ∧ capFitGo s q rung = (plainVerdict s .full q.stamp, growTally s .refusals 1))
    ∨ (∃ n, s.lowestFree = some n ∧ capacityFit s.ladder q.duration q.capacity (capRung s rung) = none
      ∧ capFitGo s q rung = (timedVerdict s .small q.stamp, growTally s .refusals 1))
    ∨ ∃ n k e, s.lowestFree = some n ∧ capacityFit s.ladder q.duration q.capacity (capRung s rung) = some (k, e)
      ∧ capFitGo s q rung = ({ timedVerdict s .go q.stamp with rung := k, slot := n.val, expected := e },
        noteRung (allocate s n q k e) k) := by
  unfold capFitGo
  cases h1 : s.lowestFree with
  | none => exact .inl ⟨rfl, rfl⟩
  | some n =>
    cases h2 : capacityFit s.ladder q.duration q.capacity (capRung s rung) with
    | none => exact .inr (.inl ⟨n, rfl, rfl, by simp [refuse]⟩)
    | some ke => exact .inr (.inr ⟨n, ke.1, ke.2, rfl, rfl, by simp⟩)

end Sys2Proof.Machine
end

