-- ==== Sys2Proof/Tests/Slice0.lean ====
section
/-! SUPPORT. Tests: terms that the well-formedness checks refuse, values from the manual's worked examples, and for every obligation
with hypotheses a state and operands that meet them (`witness_<obligation>…`). -/

namespace Sys2Proof.Tests

-- one theorem after another: each evaluation by the kernel would else wait in a thread of its own
set_option Elab.async false

open Sys2Proof.Machine

/-! ### Transactions -/

/-- The lanes of strobed bytes. -/
def lanesOf (bytes : List Nat) : List Lane := bytes.map (fun b => { data := BitVec.ofNat 8 b, strobe := true })

/-- A write of strobed bytes. -/
def writeOfBytes (addr tag : Nat) (bytes : List Nat) : BusWrite :=
  { addr := BitVec.ofNat 40 addr, tag := BitVec.ofNat 8 tag, lanes := lanesOf bytes }

/-- A read response of `n` bytes 0xEE. -/
def readOfLength (addr tag n : Nat) : ReadResponse :=
  { addr := BitVec.ofNat 40 addr, tag := BitVec.ofNat 8 tag, data := List.replicate n 0xEE }

/-! ### Well-formedness -/

theorem test_wellFormed_refuses_an_empty_write : (Instr.plainWrite (writeOfBytes 0 0 [])).wellFormed = false := by decide

theorem test_wellFormed_refuses_257_positions :
    (Instr.fillWrite { addr := 0, tag := 0, lanes := List.replicate 257 ⟨0, true⟩ }).wellFormed = false := by decide +kernel

theorem test_wellFormed_takes_256_positions :
    (Instr.fillWrite { addr := 0, tag := 0, lanes := List.replicate 256 ⟨0, true⟩ }).wellFormed = true := by decide +kernel

theorem test_wellFormed_refuses_a_write_past_the_last_address :
    (Instr.setup (writeOfBytes (2 ^ 40 - 1) 0 [1, 2])).wellFormed = false := by decide

theorem test_wellFormed_takes_the_last_address : (Instr.setup (writeOfBytes (2 ^ 40 - 1) 0 [1])).wellFormed = true := by decide

theorem test_wellFormed_refuses_an_empty_read : (Instr.drainRead (readOfLength 0 0 0)).wellFormed = false := by decide

theorem test_wellFormed_refuses_a_read_past_the_last_address :
    (Instr.headerLineRead (readOfLength (2 ^ 40 - 1) 0 2)).wellFormed = false := by decide

theorem test_wellFormed_refuses_a_known_code : (Instr.unknownDirective 10 0).wellFormed = false := by decide

theorem test_wellFormed_takes_an_unknown_code : (Instr.unknownDirective 11 0).wellFormed = true := by decide

/-! ### The decoder -/

theorem test_no_word_spells_a_command : decodeTableWord 16 0x1234 = none := by decide

/-! ### States -/

/-- A released part with its page at 0x80000000 (section 2.9) and prescaler 2, nothing configured. -/
def idle : State :=
  { State.reset with
    pif := { resetAsserted := false, pageBase := 0x80000 }
    tb := { count := 0, prescaler := 2, partTime := 0 } }

/-- The SETUP of the worked session (section 11.5). -/
def workedSetup : Setup :=
  { mode := 0, pinnedRung := 0, startRung := 2, capRung := 5, shiftFast := 2, shiftSlow := 4, dwellMin := 2, warmupLength := 1,
    abandonEnable := 1, sigma := 224, sigmaCongested := 192, rhoIn := 200, rhoOut := 232, gapLimit := 250, stallTime := 2000,
    checkTime := 1000, guard := 2000, graceTime := 3000, seed := 5600, minSample := 65536, bPanic := 0, bUp := 12000,
    bTarget := 23500, bFull := 24000 }

/-- The worked ladder (section 5.6.1). -/
def workedLadder : Ladder := { rungs := [⟨400, 0⟩, ⟨900, 0⟩, ⟨1800, 0⟩, ⟨3200, 10⟩, ⟨5500, 0⟩, ⟨8000, 0⟩] }

/-- The WINDOWS of the worked session (sections 2.3.1 and 11.5). -/
def workedWindows : Windows :=
  { fillValue := 0x30, fillMask := 0xF0, drainValue := 0x50, drainMask := 0xF0, low := 0x100000000, high := 0x200000000,
    maxCapacity := 4194304 }

/-- A position whose record of stamp 1 is adopted. -/
def adoptedOne : PositionState := { PositionState.reset with adoptedStamp := 1 }

/-- A configured session in a governor state, with the estimates of section 6.8.1 (S = 4,470, candidate 3). -/
def session (g : Governor) : State :=
  { idle with
    ccu := { idle.ccu with
      posSetup := adoptedOne, posLadder := adoptedOne, posWindows := adoptedOne, adoptedSetup := some workedSetup,
      adoptedLadder := some workedLadder, adoptedWindows := some workedWindows, counter := 3 }
    sc := { governor := g, remembered := if g = .suspended then some .adapting else none, warmupCount := 1 }
    te := { ring := [], fast := 5438, slow := 5109, congestion := .clear, valid := true }
    vu := { idle.vu with currentRung := 2, dwell := 3 } }

/-- The windows of slots 0 to 3 in `busy`. -/
def baseOf (n : Nat) : Nat := 0x100000000 + 0x200000 * n

/-- A FILLING slot: segment 7 at rung 2. -/
def fillingSlot : Slot :=
  { Slot.empty with
    state := .filling, segment := 7, rung := 2, duration := 4000, base := baseOf 0, capacity := 2097152, expected := 900000,
    lastFill := some 0, fillMark := 100000, activeMs := 200 }

/-- A LANDED slot: segment 5 at rung 3, 4,000 ms buffered. -/
def landedSlot : Slot :=
  { Slot.empty with
    state := .landed, segment := 5, rung := 3, duration := 4000, base := baseOf 1, capacity := 2097152,
    length := some 1600000, expected := 1600000, lastFill := some 0, fillMark := 1600000, activeMs := 4000 }

/-- A DRAINING slot: segment 4 at rung 1, half read, 2,000 ms buffered. -/
def drainingSlot : Slot :=
  { Slot.empty with
    state := .draining, segment := 4, rung := 1, duration := 4000, base := baseOf 2, capacity := 2097152,
    length := some 450000, expected := 450000, lastFill := some 0, fillMark := 450000, drainMark := 225000, activeMs := 1000 }

/-- An ADVISED slot: segment 6 at rung 3, advised rung 1, with its length declared. -/
def advisedSlot : Slot :=
  { Slot.empty with
    state := .advised, segment := 6, rung := 3, duration := 4000, base := baseOf 3, capacity := 2097152,
    length := some 1600000, expected := 1600000, lastFill := some 0, fillMark := 100000, activeMs := 200, advisedRung := some 1 }

/-- The session in ADAPTING with slots 0 to 3 live, B = 6,000 ms. -/
def busy : State :=
  let s := session .adapting
  { s with
    stu := { slots := #v[fillingSlot, landedSlot, drainingSlot, advisedSlot, .empty, .empty, .empty, .empty], queue := [2, 1] }
    pm := { timers := #v[⟨some ⟨0, 2000⟩, some ⟨0, 1000⟩, none⟩, .stopped, .stopped, ⟨some ⟨0, 2000⟩, none, some ⟨0, 3000⟩⟩,
      .stopped, .stopped, .stopped, .stopped] } }

/-- The state with the part time at `t` ms. -/
def atTime (s : State) (t : Nat) : State := { s with tb := { s.tb with partTime := BitVec.ofNat 32 t } }

/-- The state a command leaves. -/
def after (c : Instr) (s : State) : State :=
  match exec c s with
  | .next t => t
  | .fault _ => s
  | .refused _ => s

/-! ### Request halves -/

/-- The 24 bytes of a request (section 10.1.5): stamp 1, kind, duration, segment, capacity, length, base. -/
def requestBytes (kind duration segment capacity length base : Nat) : List Nat :=
  let le := fun v w => (List.range w).map (fun i => v / 256 ^ i % 256)
  [1, kind] ++ le duration 2 ++ le segment 4 ++ le capacity 4 ++ le length 4 ++ le base 8

/-- The write of a request to ticket 0. -/
def requestWrite (kind duration segment capacity length base : Nat) : BusWrite :=
  writeOfBytes 0x80000C00 0x10 (requestBytes kind duration segment capacity length base)

/-- The request that the write brings. -/
def requestOf (kind duration segment capacity length base : Nat) : Request :=
  { stamp := 1, kind := kind, duration := duration, segment := segment, capacity := capacity, length := length, base := base }

/-! ### Values from the manual -/

/-- Section 8.4.1: the first two bytes of a SETUP record in mode ADAPTIVE with stamp 5 take the register to 0xDB31, then 0x8FE8. -/
theorem test_checkCode_of_the_worked_bytes :
    feedByte 0x0001 0x05 = 0xDB31 ∧ feedByte (feedByte 0x0001 0x05) 0x00 = 0x8FE8 := by decide

/-- Section 5.6.1: the effective rates of the worked ladder. -/
theorem test_effective_rates : workedLadder.rungs.map effectiveRate = [400, 900, 1800, 3360, 5500, 8000] := by decide

/-- Sections 4.10 and 5.6: candidates for 4,470, 3,919, 3,201 and 2,245, and below rung 3 for 1,400. -/
theorem test_candidates : candidate workedLadder 4470 = 3 ∧ candidate workedLadder 3919 = 3 ∧ candidate workedLadder 3201 = 2
    ∧ candidate workedLadder 2245 = 2 ∧ candidateBelow workedLadder 1400 3 = 1 := by decide

/-- Section 11.5: the seed of 5,600 moved by a sample of 3,200, fast with shift 2 and slow with shift 4. -/
theorem test_estimates : updatedEstimate 5600 2 3200 = 5000 ∧ updatedEstimate 5600 4 3200 = 5450 := by decide

/-- Section 4.10.1: S = 4,470 for the estimates 5,438 and 5,109 with σ = 224. -/
theorem test_safe_rate : safeRate (session .adapting) = 4470 := by decide

/-- Sections 6.8.1 and 10.2: a FETCH with B at 6,000 stays at rung 2 (B_up is 12,000), in the lowest FREE slot, with the
expected bytes of its nominal rate and the deadline at B. -/
theorem test_fetch_is_answered_go :
    ((after (.fetch (requestWrite 1 4000 8 2097152 0 (baseOf 4))) busy).ticket 0).verdict =
      some
        { code := .go, echo := 1, rung := 2, slot := 4, holdUnits := 0, expected := 900000, decisionTick := 0,
          deadlineTick := 6000, bufferLevel := 6000, safeRate := 4470 } := by decide +kernel

/-- R94: a HOLD of 12,700 ms or more carries 127 units of 10 ms, one of 500 ms 50. -/
theorem test_hold_units : holdUnits 24000 23500 = 50 ∧ holdUnits 40000 23500 = 127 := by decide

/-- R37, R38: a counted fill of 40 bytes at the fill mark moves it by 40 and keeps FILLING; from 5 ms later active time grows by 5. -/
theorem test_fill_moves_the_mark :
    let t := after (.fillWrite (writeOfBytes (baseOf 0 + 100000) 0x32 (List.replicate 40 7))) (atTime busy 5)
    (t.slot 0).fillMark = 100040 ∧ (t.slot 0).activeMs = 205 := by decide +kernel

/-- R47 to R49: the drain read that reaches the length of a half-read slot credits the other half and frees it. -/
theorem test_drain_to_the_end_consumes :
    let t := after (.drainRead (readOfLength (baseOf 2 + 449936) 0x57 64)) busy
    (t.slot 2).state = .free ∧ t.eru.tallies.dwellTime[1] = 2000 := by decide +kernel

/-! ### Witnesses: the queue, RST, time and expiries -/

theorem witness_StepRunsTheFrontCommand :
    ({ idle with pending := [.tick, .flush] } : State).pending = .tick :: [.flush] ∧ idle.pending = [] := by decide

theorem witness_AssertedResetObservesNothing : State.reset.pif.resetAsserted = true
    ∧ writeOf (.plainWrite (writeOfBytes 0 0 [1])) = some (writeOfBytes 0 0 [1])
    ∧ readOf (.drainRead (readOfLength 0 0 1)) = some (readOfLength 0 0 1)
    ∧ writeOf .tick = none ∧ readOf .tick = none ∧ isReset .tick = false := by decide

theorem witness_ResetsSetEveryBlock : busy.takesEvents = true ∧ State.reset.pif.resetAsserted = true
    ∧ lowerEstimate State.reset = 0 := by decide +kernel

theorem witness_RefclkPeriodsMakeTheTick : idle.takesEvents = true ∧ idle.tb.count < idle.tb.prescaler ∧ idle.pending = []
    ∧ ({ idle with tb := { idle.tb with count := 2 } } : State).takesEvents = true
    ∧ ({ idle with tb := { idle.tb with count := 2 } } : State).tb.prescaler ≤ 2 := by decide +kernel

theorem witness_EventsFindDueTimersExpired : busy.ccu.adoptedSetup = some workedSetup ∧ 1 ≤ workedSetup.checkTime ∧ isExpiry .flush = false ∧ isReset .flush = false
    ∧ (atTime busy 1000).pif.resetAsserted = false ∧ (atTime busy 1000).noneDue = false
    ∧ (atTime busy 999).settleDue .setup = false ∧ (atTime busy 999).stallDue 0 = false ∧ (atTime busy 999).checkDue 0 = false
    ∧ (atTime busy 999).graceDue 3 = false := by decide +kernel

/-- With no SETUP adopted: a pending position whose 16 ms are over, and no check timer running. -/
theorem witness_EventsFindDueTimersExpired_unadopted :
    let s : State := { atTime idle 16 with ccu := { idle.ccu with posSetup := { PositionState.reset with pending := true, settle := some 0 } } }
    s.ccu.adoptedSetup = none ∧ (∀ n : Fin 8, (s.timers n).check = none) ∧ s.pif.resetAsserted = false ∧ s.noneDue = false := by
  decide +kernel

/-- A session whose SETUP position has been pending since part time 2^32 − 6, seen at 10: its 16 ms are just over. -/
def settling : State :=
  let s := atTime (session .ready) 10
  { s with ccu := { s.ccu with posSetup := { adoptedOne with pending := true, settle := some (0 - 6) } } }

theorem witness_SettleExpiryRejectsThePendingRecord : settling.pif.resetAsserted = false ∧ settling.settleDue .setup = true
    ∧ (settling.position .setup).pending = true ∧ (atTime settling 9).settleDue .setup = false := by decide +kernel

theorem witness_StallExpiryMarksAndAdvises : (atTime busy 2000).pif.resetAsserted = false ∧ (atTime busy 2000).stallDue 0 = true
    ∧ ((atTime busy 2000).sc.governor.decides = true ∧ (atTime busy 2000).setup.mode = 0
      ∧ (atTime busy 2000).setup.abandonEnable = 1 ∧ 1 ≤ ((atTime busy 2000).slot 0).rung
      ∧ (((atTime busy 2000).slot 0).state = .issued ∨ ((atTime busy 2000).slot 0).state = .filling))
    ∧ (atTime busy 2000).stallDue 3 = true ∧ ((atTime busy 2000).slot 3).state = .advised := by decide +kernel

/-- 800,000 bytes remain at 4,000 kbit/s: a projection of 1,600 ms, against B − guard = 4,000 ms, so the fetch is in time. -/
theorem witness_CheckExpiryJudgesTheFetch_inTime : (atTime busy 1000).pif.resetAsserted = false
    ∧ (atTime busy 1000).checkDue 0 = true ∧ ((atTime busy 1000).slot 0).state = .filling
    ∧ judgedLate ((atTime busy 1000).slot 0) (atTime busy 1000).bufferLevel (atTime busy 1000).setup.guard = false := by
  decide +kernel

/-- With nothing queued B is 0 and B − guard is −2,000 ms: the fetch is late, and advice is permitted. -/
theorem witness_CheckExpiryJudgesTheFetch_late :
    let s := (atTime busy 1000).setQueue []
    s.pif.resetAsserted = false ∧ s.checkDue 0 = true ∧ (s.slot 0).state = .filling
    ∧ judgedLate (s.slot 0) s.bufferLevel s.setup.guard = true ∧ s.sc.governor.decides = true ∧ s.setup.mode = 0
    ∧ s.setup.abandonEnable = 1 ∧ 1 ≤ (s.slot 0).rung := by decide +kernel

theorem witness_GraceExpiryReportsUnheeded :
    (atTime busy 3000).pif.resetAsserted = false ∧ (atTime busy 3000).graceDue 3 = true := by decide +kernel

/-! ### Witnesses: directives -/

theorem witness_SessionDirectivesMoveTheGovernor : (session .ready).takesEvents = true ∧ (session .ready).sc.governor = .ready
    ∧ (session .ready).ccu.adoptedSetup = some workedSetup ∧ (session .ready).ccu.adoptedLadder = some workedLadder
    ∧ (session .warmup).takesEvents = true ∧ (session .warmup).sc.governor = .warmup
    ∧ (session .adapting).takesEvents = true ∧ (session .adapting).sc.governor = .adapting
    ∧ (session .suspended).takesEvents = true ∧ (session .suspended).sc.governor = .suspended
    ∧ (session .suspended).sc.remembered = some .adapting := by decide +kernel

/-- SUSPENDED, remembering WARMUP, with the warmup count at W. -/
def suspendedInWarmup : State :=
  { session .suspended with sc := { governor := .suspended, remembered := some .warmup, warmupCount := 1 } }

theorem witness_SessionDirectivesMoveTheGovernor_warmup : suspendedInWarmup.takesEvents = true
    ∧ suspendedInWarmup.sc.governor = .suspended ∧ suspendedInWarmup.sc.remembered = some .warmup := by decide +kernel

theorem witness_FlushAndTeardownFreeEverySlot : busy.takesEvents = true ∧ busy.sc.governor.armed = true := by decide +kernel

theorem witness_SeedSetsBothEstimates : busy.takesEvents = true
    ∧ ∀ u, busy.ccu.adoptedSetup = some u → u.rhoIn ≤ 250 ∧ u.rhoOut ≤ 256 :=
  ⟨by decide +kernel, fun u h => by cases h; decide⟩

/-- R70: a SEED before any SETUP leaves the part CLEAR, with no event. -/
theorem test_seed_before_setup_leaves_clear :
    let t := after (.seed 5600) idle
    t.te.fast = 5600 ∧ t.te.congestion = .clear ∧ t.eru.flags = 0x100 := by decide +kernel

theorem witness_AckEnableAndClearTallies : busy.takesEvents = true := by decide +kernel

theorem witness_IgnoredDirectivesAreNoted : idle.takesEvents = true ∧ idle.sc.governor = .dormant ∧ idle.sc.governor.armed = false
    ∧ busy.takesEvents = true ∧ busy.sc.governor.armed = true ∧ busy.sc.governor.decides = true
    ∧ (session .suspended).takesEvents = true ∧ (session .suspended).sc.governor = .suspended
    ∧ 11 ≤ (11 : Byte).toNat ∧ 11 ≤ (255 : Byte).toNat := by decide +kernel

/-! ### Witnesses: control records -/

/-- The state whose capture shadow holds these bytes. -/
def holding (s : State) (m : ByteStore) : State := { s with ccu := { s.ccu with shadow := m } }

/-- The write of stamp 2 to a position's first byte. -/
def stampWrite (p : Position) : BusWrite := writeOfBytes (0x80000000 + positionOffset p) 0x10 [2]

/-- A SETUP record of stamp 2 with every field 0. -/
def setupStore : ByteStore := [(0x0, 0x2), (0xfe, 0x5d), (0xff, 0x3d)]

theorem setupStore_matches : checkMatches setupStore .setup = true := by
  have code : checkCode setupStore .setup = 0x3d5d := by
    calc
      checkCode setupStore .setup = feedFrom setupStore 0x0001 0 (32 + (32 + (32 + (32 + (32 + (32 + (32 + 30))))))) := rfl
      _ = feedFrom setupStore 0xf58e 32 (32 + (32 + (32 + (32 + (32 + (32 + 30)))))) := by
        rw [feedFrom_add, (by decide +kernel : feedFrom setupStore 0x1 0 32 = 0xf58e)]
      _ = feedFrom setupStore 0xab2a 64 (32 + (32 + (32 + (32 + (32 + 30))))) := by
        rw [feedFrom_add, (by decide +kernel : feedFrom setupStore 0xf58e 32 32 = 0xab2a)]
      _ = feedFrom setupStore 0x263b 96 (32 + (32 + (32 + (32 + 30)))) := by
        rw [feedFrom_add, (by decide +kernel : feedFrom setupStore 0xab2a 64 32 = 0x263b)]
      _ = feedFrom setupStore 0x49dc 128 (32 + (32 + (32 + 30))) := by
        rw [feedFrom_add, (by decide +kernel : feedFrom setupStore 0x263b 96 32 = 0x49dc)]
      _ = feedFrom setupStore 0x5a06 160 (32 + (32 + 30)) := by
        rw [feedFrom_add, (by decide +kernel : feedFrom setupStore 0x49dc 128 32 = 0x5a06)]
      _ = feedFrom setupStore 0xe1f9 192 (32 + 30) := by
        rw [feedFrom_add, (by decide +kernel : feedFrom setupStore 0x5a06 160 32 = 0xe1f9)]
      _ = feedFrom setupStore 0xf6b4 224 30 := by
        rw [feedFrom_add, (by decide +kernel : feedFrom setupStore 0xe1f9 192 32 = 0xf6b4)]
      _ = 0x3d5d := by decide +kernel
  have field : readField setupStore 254 2 = (0x3d5d : BitVec 16).toNat := by decide +kernel
  exact checkMatches_of code field

/-- A LADDER record of stamp 2 with no rung. -/
def noLadderStore : ByteStore := [(0x100, 0x2), (0x1fe, 0x5d), (0x1ff, 0x3d)]

theorem noLadderStore_matches : checkMatches noLadderStore .ladder = true := by
  have code : checkCode noLadderStore .ladder = 0x3d5d := by
    calc
      checkCode noLadderStore .ladder = feedFrom noLadderStore 0x0001 256 (32 + (32 + (32 + (32 + (32 + (32 + (32 + 30))))))) := rfl
      _ = feedFrom noLadderStore 0xf58e 288 (32 + (32 + (32 + (32 + (32 + (32 + 30)))))) := by
        rw [feedFrom_add, (by decide +kernel : feedFrom noLadderStore 0x1 256 32 = 0xf58e)]
      _ = feedFrom noLadderStore 0xab2a 320 (32 + (32 + (32 + (32 + (32 + 30))))) := by
        rw [feedFrom_add, (by decide +kernel : feedFrom noLadderStore 0xf58e 288 32 = 0xab2a)]
      _ = feedFrom noLadderStore 0x263b 352 (32 + (32 + (32 + (32 + 30)))) := by
        rw [feedFrom_add, (by decide +kernel : feedFrom noLadderStore 0xab2a 320 32 = 0x263b)]
      _ = feedFrom noLadderStore 0x49dc 384 (32 + (32 + (32 + 30))) := by
        rw [feedFrom_add, (by decide +kernel : feedFrom noLadderStore 0x263b 352 32 = 0x49dc)]
      _ = feedFrom noLadderStore 0x5a06 416 (32 + (32 + 30)) := by
        rw [feedFrom_add, (by decide +kernel : feedFrom noLadderStore 0x49dc 384 32 = 0x5a06)]
      _ = feedFrom noLadderStore 0xe1f9 448 (32 + 30) := by
        rw [feedFrom_add, (by decide +kernel : feedFrom noLadderStore 0x5a06 416 32 = 0xe1f9)]
      _ = feedFrom noLadderStore 0xf6b4 480 30 := by
        rw [feedFrom_add, (by decide +kernel : feedFrom noLadderStore 0xe1f9 448 32 = 0xf6b4)]
      _ = 0x3d5d := by decide +kernel
  have field : readField noLadderStore 510 2 = (0x3d5d : BitVec 16).toNat := by decide +kernel
  exact checkMatches_of code field

/-- A LADDER record with one rung of 64 kbit/s, the lowest rate. -/
def ladderStore : ByteStore := [(0x100, 0x2), (0x101, 0x1), (0x104, 0x40), (0x1fe, 0x43), (0x1ff, 0x97)]

theorem ladderStore_matches : checkMatches ladderStore .ladder = true := by
  have code : checkCode ladderStore .ladder = 0x9743 := by
    calc
      checkCode ladderStore .ladder = feedFrom ladderStore 0x0001 256 (32 + (32 + (32 + (32 + (32 + (32 + (32 + 30))))))) := rfl
      _ = feedFrom ladderStore 0xf8d6 288 (32 + (32 + (32 + (32 + (32 + (32 + 30)))))) := by
        rw [feedFrom_add, (by decide +kernel : feedFrom ladderStore 0x1 256 32 = 0xf8d6)]
      _ = feedFrom ladderStore 0x5bb9 320 (32 + (32 + (32 + (32 + (32 + 30))))) := by
        rw [feedFrom_add, (by decide +kernel : feedFrom ladderStore 0xf8d6 288 32 = 0x5bb9)]
      _ = feedFrom ladderStore 0xa628 352 (32 + (32 + (32 + (32 + 30)))) := by
        rw [feedFrom_add, (by decide +kernel : feedFrom ladderStore 0x5bb9 320 32 = 0xa628)]
      _ = feedFrom ladderStore 0x4304 384 (32 + (32 + (32 + 30))) := by
        rw [feedFrom_add, (by decide +kernel : feedFrom ladderStore 0xa628 352 32 = 0x4304)]
      _ = feedFrom ladderStore 0x622 416 (32 + (32 + 30)) := by
        rw [feedFrom_add, (by decide +kernel : feedFrom ladderStore 0x4304 384 32 = 0x622)]
      _ = feedFrom ladderStore 0xe0e6 448 (32 + 30) := by
        rw [feedFrom_add, (by decide +kernel : feedFrom ladderStore 0x622 416 32 = 0xe0e6)]
      _ = feedFrom ladderStore 0xe34 480 30 := by
        rw [feedFrom_add, (by decide +kernel : feedFrom ladderStore 0xe0e6 448 32 = 0xe34)]
      _ = 0x9743 := by decide +kernel
  have field : readField ladderStore 510 2 = (0x9743 : BitVec 16).toNat := by decide +kernel
  exact checkMatches_of code field

/-- A WINDOWS record with both bounds 0. -/
def noWindowsStore : ByteStore := [(0x200, 0x2), (0x23e, 0x6c), (0x23f, 0x5c)]

theorem noWindowsStore_matches : checkMatches noWindowsStore .windows = true := by
  have code : checkCode noWindowsStore .windows = 0x5c6c := by
    calc
      checkCode noWindowsStore .windows = feedFrom noWindowsStore 0x0001 512 (32 + 30) := rfl
      _ = feedFrom noWindowsStore 0xf58e 544 30 := by
        rw [feedFrom_add, (by decide +kernel : feedFrom noWindowsStore 0x1 512 32 = 0xf58e)]
      _ = 0x5c6c := by decide +kernel
  have field : readField noWindowsStore 574 2 = (0x5c6c : BitVec 16).toNat := by decide +kernel
  exact checkMatches_of code field

/-- A WINDOWS record whose bounds begin where the governor page ends, with the least maximum capacity. -/
def windowsStore : ByteStore :=
  [(0x200, 0x2), (0x209, 0x10), (0x20b, 0x80), (0x210, 0x1), (0x211, 0x10), (0x213, 0x80), (0x219, 0x10), (0x23e, 0x7f), (0x23f, 0x86)]

theorem windowsStore_matches : checkMatches windowsStore .windows = true := by
  have code : checkCode windowsStore .windows = 0x867f := by
    calc
      checkCode windowsStore .windows = feedFrom windowsStore 0x0001 512 (32 + 30) := rfl
      _ = feedFrom windowsStore 0x6cbd 544 30 := by
        rw [feedFrom_add, (by decide +kernel : feedFrom windowsStore 0x1 512 32 = 0x6cbd)]
      _ = 0x867f := by decide +kernel
  have field : readField windowsStore 574 2 = (0x867f : BitVec 16).toNat := by decide +kernel
  exact checkMatches_of code field

/-- A DIRECTIVE record: ACK of flag 8, then ARM. -/
def directiveStore : ByteStore := [(0x240, 0x2), (0x248, 0x9), (0x24d, 0x1), (0x250, 0x1), (0x27e, 0xff), (0x27f, 0x82)]

theorem directiveStore_matches : checkMatches directiveStore .directive = true := by
  have code : checkCode directiveStore .directive = 0x82ff := by
    calc
      checkCode directiveStore .directive = feedFrom directiveStore 0x0001 576 (32 + 30) := rfl
      _ = feedFrom directiveStore 0xfdec 608 30 := by
        rw [feedFrom_add, (by decide +kernel : feedFrom directiveStore 0x1 576 32 = 0xfdec)]
      _ = 0x82ff := by decide +kernel
  have field : readField directiveStore 638 2 = (0x82ff : BitVec 16).toNat := by decide +kernel
  exact checkMatches_of code field

/-- A WINDOWS record of the stamp 1 that is already adopted. -/
def oldWindowsStore : ByteStore := [(0x200, 0x1), (0x23e, 0x61), (0x23f, 0xf8)]

theorem oldWindowsStore_matches : checkMatches oldWindowsStore .windows = true := by
  have code : checkCode oldWindowsStore .windows = 0xf861 := by
    calc
      checkCode oldWindowsStore .windows = feedFrom oldWindowsStore 0x0001 512 (32 + 30) := rfl
      _ = feedFrom oldWindowsStore 0x27a 544 30 := by
        rw [feedFrom_add, (by decide +kernel : feedFrom oldWindowsStore 0x1 512 32 = 0x27a)]
      _ = 0xf861 := by decide +kernel
  have field : readField oldWindowsStore 574 2 = (0xf861 : BitVec 16).toNat := by decide +kernel
  exact checkMatches_of code field

/-- A write of the stamp a whole record already has presents it. -/
theorem presents_of {s : State} {p : Position} {w : BusWrite} {m : ByteStore} (h1 : s.writeFallsIn w (.control p) = true)
    (h2 : s.shadowAfter w = m) (h3 : checkMatches m p = true) (h4 : readByte m (positionOffset p) = 2)
    (h5 : (s.position p).adoptedStamp ≠ 2 ∧ (s.position p).rejectedStamp ≠ 2) : s.presents p w = true := by
  rw [presents_iff, State.stampAfter, h2, h4]
  exact ⟨h1, h3, by decide, h5.1.symm, h5.2.symm⟩

theorem witness_SetupRecordIsAdopted : (holding (session .ready) setupStore).presents .setup (stampWrite .setup) = true :=
  presents_of (by decide +kernel) (by decide +kernel) setupStore_matches (by decide +kernel) (by decide +kernel)

theorem witness_LadderRecordIsJudged_misshapen :
    (holding (session .ready) noLadderStore).presents .ladder (stampWrite .ladder) = true
    ∧ readRungCount ((holding (session .ready) noLadderStore).shadowAfter (stampWrite .ladder)) = 0 :=
  ⟨presents_of (by decide +kernel) (by decide +kernel) noLadderStore_matches (by decide +kernel) (by decide +kernel),
    by decide +kernel⟩

theorem witness_LadderRecordIsJudged_inUse : (holding busy ladderStore).presents .ladder (stampWrite .ladder) = true
    ∧ readRungCount ((holding busy ladderStore).shadowAfter (stampWrite .ladder)) = 1
    ∧ readField ((holding busy ladderStore).shadowAfter (stampWrite .ladder)) 0x104 2 = 64
    ∧ (holding busy ladderStore).anyLive = true :=
  ⟨presents_of (by decide +kernel) (by decide +kernel) ladderStore_matches (by decide +kernel) (by decide +kernel),
    by decide +kernel⟩

theorem witness_LadderRecordIsJudged_adopted :
    (holding (session .ready) ladderStore).presents .ladder (stampWrite .ladder) = true
    ∧ readRungCount ((holding (session .ready) ladderStore).shadowAfter (stampWrite .ladder)) = 1
    ∧ readField ((holding (session .ready) ladderStore).shadowAfter (stampWrite .ladder)) 0x104 2 = 64
    ∧ (holding (session .ready) ladderStore).anyLive = false :=
  ⟨presents_of (by decide +kernel) (by decide +kernel) ladderStore_matches (by decide +kernel) (by decide +kernel),
    by decide +kernel⟩

theorem witness_WindowsRecordIsJudged_misshapen :
    (holding (session .ready) noWindowsStore).presents .windows (stampWrite .windows) = true
    ∧ readField ((holding (session .ready) noWindowsStore).shadowAfter (stampWrite .windows)) 0x210 5 = 0 :=
  ⟨presents_of (by decide +kernel) (by decide +kernel) noWindowsStore_matches (by decide +kernel) (by decide +kernel),
    by decide +kernel⟩

theorem witness_WindowsRecordIsJudged :
    (holding busy windowsStore).presents .windows (stampWrite .windows) = true
    ∧ (holding (session .ready) windowsStore).presents .windows (stampWrite .windows) = true
    ∧ (readField ((holding busy windowsStore).shadowAfter (stampWrite .windows)) 0x208 5 = busy.pageStart + 4096
      ∧ readField ((holding busy windowsStore).shadowAfter (stampWrite .windows)) 0x210 5 = busy.pageStart + 4097
      ∧ readField ((holding busy windowsStore).shadowAfter (stampWrite .windows)) 0x218 4 = 4096
      ∧ (holding busy windowsStore).anyLive = true ∧ (holding (session .ready) windowsStore).anyLive = false) :=
  ⟨presents_of (by decide +kernel) (by decide +kernel) windowsStore_matches (by decide +kernel) (by decide +kernel),
    presents_of (by decide +kernel) (by decide +kernel) windowsStore_matches (by decide +kernel) (by decide +kernel),
    by decide +kernel⟩

theorem witness_DirectiveListIsItsEntries :
    (holding (session .ready) directiveStore).presents .directive (stampWrite .directive) = true
    ∧ listCommands 0 (readEntries ((holding (session .ready) directiveStore).shadowAfter (stampWrite .directive)))
      = [.ack 0x100, .arm 1] :=
  ⟨presents_of (by decide +kernel) (by decide +kernel) directiveStore_matches (by decide +kernel) (by decide +kernel),
    by decide +kernel⟩

theorem witness_RecordsThatAreNotTaken :
    (session .ready).writeFallsIn (writeOfBytes 0x80000001 0x10 [0]) (.control .setup) = true
    ∧ (session .ready).stampAfter .setup (writeOfBytes 0x80000001 0x10 [0]) = 0
    ∧ (session .ready).writeFallsIn (stampWrite .windows) (.control .windows) = true
    ∧ (session .ready).stampAfter .windows (stampWrite .windows) ≠ 0
    ∧ checkMatches ((session .ready).shadowAfter (stampWrite .windows)) .windows = false := by
  have h : (session .ready).shadowAfter (stampWrite .windows) = [(0x200, 2)] := by decide +kernel
  have code : checkCode [(0x200, 2)] .windows = 0x5c6c := by
    calc
      checkCode [(0x200, 2)] .windows = feedFrom [(0x200, 2)] 0x0001 512 (32 + 30) := rfl
      _ = feedFrom [(0x200, 2)] 0xf58e 544 30 := by
        rw [feedFrom_add, (by decide +kernel : feedFrom [(0x200, 2)] 0x1 512 32 = 0xf58e)]
      _ = 0x5c6c := by decide +kernel
  refine ⟨by decide +kernel, by decide +kernel, by decide +kernel, by decide +kernel, ?_⟩
  rw [h, checkMatches, code]
  decide +kernel

theorem witness_RecordsThatAreNotTaken_adopted :
    let s := holding (session .ready) oldWindowsStore
    let w := writeOfBytes 0x80000200 0x10 [1]
    s.writeFallsIn w (.control .windows) = true ∧ checkMatches (s.shadowAfter w) .windows = true
    ∧ s.stampAfter .windows w = (s.position .windows).adoptedStamp := by
  have h : (holding (session .ready) oldWindowsStore).shadowAfter (writeOfBytes 0x80000200 0x10 [1]) = oldWindowsStore := by
    decide +kernel
  refine ⟨by decide +kernel, ?_, by decide +kernel⟩
  rw [h]
  exact oldWindowsStore_matches

theorem witness_CaptureShadowHoldsTheStrobedBytes : ByteStore.wf (holding idle setupStore).ccu.shadow = true
    ∧ idle.pageStart ≤ (stampWrite .ladder).addr.toNat := by decide +kernel

theorem witness_CheckCodeCatchesAChangedByte : positionOffset .setup ≤ 253 ∧ 253 < positionOffset .setup + positionSize .setup - 2
    ∧ (∀ b, b ≠ 253 → readByte [(253, 1)] b = readByte [(253, 2)] b) ∧ readByte [(253, 1)] 253 ≠ readByte [(253, 2)] 253 := by
  refine ⟨by decide, by decide, fun b hb => ?_, by decide⟩
  simp [readByte, Ne.symm hb]

theorem workedSetup_inRange : SettingsInRange workedSetup := by
  constructor <;> decide

/-- The fields of the worked session's SETUP record, at their offsets (section 10.1.1). -/
def workedStore : ByteStore :=
  [(0x3, 2), (0x4, 5), (0x5, 2), (0x6, 4), (0x7, 2), (0x8, 1), (0x9, 1), (0xa, 224), (0xc, 192), (0xe, 200), (0x10,
    232), (0x12, 250), (0x14, 208), (0x15, 7), (0x16, 232), (0x17, 3), (0x18, 208), (0x19, 7), (0x1a, 184), (0x1b, 11),
    (0x1c, 224), (0x1d, 21), (0x22, 1), (0x28, 224), (0x29, 46), (0x2c, 204), (0x2d, 91), (0x30, 192), (0x31, 93)]

/-- A record whose stored fields are in range, and what adoption takes from it: the fields as they stand, none altered (R140). -/
theorem witness_AdoptedSettingsAreInRange : settingsValues (readSetup workedStore) = workedSetup
    ∧ alteredFrom 1 (settingsList (readSetup workedStore)) = [] ∧ workedSetup.bFull ≤ 120000
    ∧ readField workedStore 0x06 1 = workedSetup.shiftSlow ∧ readField workedStore 0x10 2 = workedSetup.rhoOut
    ∧ readField workedStore 0x30 4 = workedSetup.bFull ∧ SettingsInRange workedSetup :=
  ⟨by decide +kernel, by decide +kernel, by decide, by decide +kernel, by decide +kernel, by decide +kernel, workedSetup_inRange⟩

/-- R140, with every field stored as 0: those whose ranges begin above 0 are altered, grace and B_full are raised. -/
theorem test_fields_of_zero_are_altered :
    alteredFrom 1 (settingsList (readSetup setupStore)) = [5, 6, 10, 11, 12, 13, 14, 15, 16, 18, 24]
    ∧ (settingsValues (readSetup setupStore)).graceTime = 100 ∧ (settingsValues (readSetup setupStore)).bFull = 10 := by
  decide +kernel

/-! ### Witnesses: tickets -/

theorem witness_RequestHalfWritesThatTakeNothing :
    busy.writeFallsIn (writeOfBytes 0x80000C01 0x10 [1]) (.request 0) = true
    ∧ busy.closes 0 (writeOfBytes 0x80000C01 0x10 [1]) = false
    ∧ busy.closes 0 (writeOfBytes 0x80000C00 0x10 [0]) = true
    ∧ readByte (busy.requestAfter 0 (writeOfBytes 0x80000C00 0x10 [0])) 0 = 0
    ∧ busy.writeFallsIn (writeOfBytes 0x80000FDF 0x10 [1]) (.request 15) = true := by decide +kernel

/-- The state after a request of kind 0 in ticket 0, whose entry stamp is then 1. -/
def answered : State := after (.unknownKind (requestWrite 0 0 0 0 0 0)) busy

theorem witness_RequestHalfWritesThatTakeNothing_sameStamp :
    answered.closes 0 (requestWrite 2 0 7 0 1 0) = true
    ∧ readByte (answered.requestAfter 0 (requestWrite 2 0 7 0 1 0)) 0 = (answered.ticket 0).stamp
    ∧ (answered.ticket 0).stamp ≠ 0 := by decide +kernel

theorem witness_UnknownKindIsRefused : busy.brings 0 (requestWrite 0 0 0 0 0 0) (requestOf 0 0 0 0 0 0) = true
    ∧ busy.brings 0 (requestWrite 5 0 0 0 0 0) (requestOf 5 0 0 0 0 0) = true := by decide +kernel

/-- A FETCH whose capacity is exactly rung 1's expected bytes: the capacity fit lowers rung 2 to 1. -/
theorem witness_FetchIsAnsweredGo :
    let q := requestOf 1 4000 8 450000 0 (baseOf 4)
    busy.brings 0 (requestWrite 1 4000 8 450000 0 (baseOf 4)) q = true ∧ q.kind = 1 ∧ busy.sc.governor.decides = true
    ∧ (1 ≤ q.duration ∧ q.duration ≤ 20000 ∧ 1 ≤ q.capacity ∧ q.capacity ≤ busy.windows.maxCapacity ∧ q.base < 2 ^ 40
      ∧ busy.windows.low ≤ q.base ∧ q.base + q.capacity ≤ busy.windows.high)
    ∧ (∀ m : Fin 8, (busy.slot m).state.live = true → (busy.slot m).segment ≠ q.segment
      ∧ ((busy.slot m).base + (busy.slot m).capacity ≤ q.base ∨ q.base + q.capacity ≤ (busy.slot m).base))
    ∧ (busy.slot 4).state = .free ∧ (∀ m : Fin 8, m < 4 → (busy.slot m).state ≠ .free)
    ∧ busy.bufferLevel < busy.setup.bFull
    ∧ 1 ≤ min (rungStep busy) (min busy.setup.capRung (rungCount busy.ladder - 1))
    ∧ expectedBytes busy.ladder 1 q.duration ≤ q.capacity
    ∧ ∀ j, j ≤ min (rungStep busy) (min busy.setup.capRung (rungCount busy.ladder - 1)) → 1 < j →
      q.capacity < expectedBytes busy.ladder j q.duration := by decide +kernel

theorem witness_FetchStepsThatEndIt_state :
    let w := requestWrite 1 4000 8 450000 0 (baseOf 4)
    let q := requestOf 1 4000 8 450000 0 (baseOf 4)
    idle.brings 0 w q = true ∧ idle.sc.governor = .dormant ∧ (session .ready).brings 0 w q = true
    ∧ (session .ready).sc.governor = .ready ∧ (session .suspended).brings 0 w q = true
    ∧ (session .suspended).sc.governor = .suspended := by decide +kernel

/-- One byte past the high bound is invalid; segment 7 is a duplicate; one shared byte is an overlap. -/
theorem witness_FetchStepsThatEndIt_request :
    busy.brings 0 (requestWrite 1 4000 8 1 0 0x200000000) (requestOf 1 4000 8 1 0 0x200000000) = true
    ∧ busy.windows.high < 0x200000000 + 1
    ∧ busy.brings 0 (requestWrite 1 4000 7 1 0 (baseOf 4)) (requestOf 1 4000 7 1 0 (baseOf 4)) = true
    ∧ ((busy.slot 0).state.live = true ∧ (busy.slot 0).segment = 7)
    ∧ busy.brings 0 (requestWrite 1 4000 8 1 0 (baseOf 4 - 1)) (requestOf 1 4000 8 1 0 (baseOf 4 - 1)) = true
    ∧ (baseOf 4 - 1 < (busy.slot 3).base + (busy.slot 3).capacity ∧ (busy.slot 3).base < baseOf 4 - 1 + 1)
    ∧ (∀ n : Fin 8, ¬ ((busy.slot n).state.live = true ∧ (busy.slot n).segment = 8))
    ∧ requestValid busy.windows (requestOf 1 4000 8 1 0 (baseOf 4 - 1)) = true := by decide +kernel

/-- No rung's expected bytes fit in one byte; with the fill level at B_full the fetch is held. -/
theorem witness_FetchStepsThatEndIt_small : busy.brings 0 (requestWrite 1 4000 8 1 0 (baseOf 4)) (requestOf 1 4000 8 1 0 (baseOf 4)) = true
    ∧ busy.bufferLevel < busy.setup.bFull ∧ (∀ n : Fin 8, ¬ ((busy.slot n).state.live = true
      ∧ baseOf 4 < (busy.slot n).base + (busy.slot n).capacity ∧ (busy.slot n).base < baseOf 4 + 1))
    ∧ (∃ n : Fin 8, (busy.slot n).state = .free)
    ∧ ∀ j, j ≤ min (rungStep busy) (min busy.setup.capRung (rungCount busy.ladder - 1)) →
      1 < expectedBytes busy.ladder j 4000 := by decide +kernel

/-- `busy` with B_full at its B of 6,000 ms. -/
def held : State := { busy with ccu := { busy.ccu with adoptedSetup := some { workedSetup with bTarget := 5990, bFull := 6000 } } }

theorem witness_FetchStepsThatEndIt_hold : held.brings 0 (requestWrite 1 4000 8 1 0 (baseOf 4)) (requestOf 1 4000 8 1 0 (baseOf 4)) = true
    ∧ held.sc.governor.decides = true ∧ held.setup.bFull ≤ held.bufferLevel := by decide +kernel

/-- `busy` with all eight slots live. -/
def crowded : State :=
  { busy with stu := { busy.stu with slots := #v[fillingSlot, landedSlot, drainingSlot, advisedSlot,
    { fillingSlot with segment := 11, base := baseOf 4 }, { fillingSlot with segment := 12, base := baseOf 5 },
    { fillingSlot with segment := 13, base := baseOf 6 }, { fillingSlot with segment := 14, base := baseOf 7 }] } }

theorem witness_FetchStepsThatEndIt_full : crowded.brings 0 (requestWrite 1 4000 8 1 0 (baseOf 8)) (requestOf 1 4000 8 1 0 (baseOf 8)) = true
    ∧ crowded.sc.governor.decides = true ∧ (∀ n : Fin 8, (crowded.slot n).state ≠ .free) := by decide +kernel

theorem witness_RungStepCases : busy.setup.mode = 0 ∧ busy.setup.bPanic ≤ busy.bufferLevel ∧ busy.sc.governor = .adapting
    ∧ busy.vu.currentRung < candidate busy.ladder (safeRate busy) ∧ ¬ busy.setup.bUp ≤ busy.bufferLevel
    ∧ (session .warmup).sc.governor = .warmup ∧ (session .warmup).setup.bPanic ≤ (session .warmup).bufferLevel := by decide +kernel

/-- `busy` with other settings, current rung and dwell count. -/
def tuned (u : Setup) (rung dwell : Nat) : State :=
  { busy with ccu := { busy.ccu with adoptedSetup := some u }, vu := { busy.vu with currentRung := rung, dwell := dwell } }

theorem witness_RungStepCases_others : (tuned { workedSetup with mode := 1 } 2 3).setup.mode = 1
    ∧ (tuned { workedSetup with bPanic := 6001 } 2 3).bufferLevel < (tuned { workedSetup with bPanic := 6001 } 2 3).setup.bPanic
    ∧ candidate (tuned workedSetup 5 3).ladder (safeRate (tuned workedSetup 5 3)) < (tuned workedSetup 5 3).vu.currentRung
    ∧ candidate (tuned workedSetup 3 3).ladder (safeRate (tuned workedSetup 3 3)) = (tuned workedSetup 3 3).vu.currentRung
    ∧ (let s := tuned { workedSetup with bUp := 6000 } 2 2
      s.vu.currentRung < candidate s.ladder (safeRate s) ∧ s.setup.bUp ≤ s.bufferLevel ∧ s.te.congestion = .clear
        ∧ s.setup.dwellMin ≤ s.vu.dwell) := by decide +kernel

/-- The worked ladder is legal, as is a ladder of one rung. -/
theorem workedLadder_legal : LadderLegal workedLadder := by
  constructor <;> decide

theorem witness_CapacityFitFindsTheHighestRung : LadderLegal workedLadder ∧ 5 < rungCount workedLadder :=
  ⟨workedLadder_legal, by decide⟩

theorem witness_GoVerdictsStayInBounds :
    let c := Instr.replace (requestWrite 4 4000 6 450000 0 (baseOf 3))
    busy.brings 0 (requestWrite 4 4000 6 450000 0 (baseOf 3)) (requestOf 4 4000 6 450000 0 (baseOf 3)) = true
    ∧ writeOf c = some (requestWrite 4 4000 6 450000 0 (baseOf 3)) ∧ exec c busy = .next (after c busy)
    ∧ (((after c busy).ticket 0).verdict.map (fun v => (v.code, v.rung, v.slot))) = some (.go, 1, 3) := by
  refine ⟨by decide +kernel, rfl, rfl, by decide +kernel⟩

theorem witness_GoVerdictsStayInBounds_fetch :
    let c := Instr.fetch (requestWrite 1 4000 8 450000 0 (baseOf 4))
    busy.brings 0 (requestWrite 1 4000 8 450000 0 (baseOf 4)) (requestOf 1 4000 8 450000 0 (baseOf 4)) = true
    ∧ exec c busy = .next (after c busy) ∧ busy.setup.mode ≠ 1
    ∧ (((after c busy).ticket 0).verdict.map (fun v => (v.code, v.rung, v.slot))) = some (.go, 1, 4) := by
  refine ⟨by decide +kernel, rfl, by decide, by decide +kernel⟩

/-- LENGTH of segment 7, filled to 100,000 of a capacity of 2,097,152: just above the mark, at it, past the capacity, below it. -/
theorem witness_LengthIsDeclared : (∀ v ∈ [100001, 100000, 2097153, 99999],
      busy.brings 0 (requestWrite 2 0 7 0 v 0) (requestOf 2 0 7 0 v 0) = true)
    ∧ (busy.slot 0).state.unlanded = true ∧ (busy.slot 0).segment = 7
    ∧ (∀ m : Fin 8, m ≠ 0 → (busy.slot m).state.live = true → (busy.slot m).segment ≠ 7)
    ∧ (busy.slot 0).length = none ∧ (busy.slot 0).fillMark = 100000 ∧ (busy.slot 0).fillMark ≤ (busy.slot 0).capacity
    ∧ (busy.slot 0).capacity = 2097152 := by decide +kernel

theorem witness_LengthIsNotDeclared : busy.brings 0 (requestWrite 2 0 7 0 0 0) (requestOf 2 0 7 0 0 0) = true
    ∧ busy.brings 0 (requestWrite 2 0 5 0 1 0) (requestOf 2 0 5 0 1 0) = true
    ∧ (∀ m : Fin 8, (busy.slot m).state.unlanded = true → (busy.slot m).segment ≠ 5)
    ∧ busy.brings 0 (requestWrite 2 0 6 0 1 0) (requestOf 2 0 6 0 1 0) = true
    ∧ (busy.slot 3).state.unlanded = true ∧ (busy.slot 3).segment = 6 ∧ (busy.slot 3).length.isSome = true
    ∧ (∀ m : Fin 8, m ≠ 3 → (busy.slot m).state.live = true → (busy.slot m).segment ≠ 6) := by decide +kernel

theorem witness_DropFreesTheSlot : busy.brings 0 (requestWrite 3 0 5 0 0 0) (requestOf 3 0 5 0 0 0) = true
    ∧ (busy.slot 1).state.live = true ∧ (busy.slot 1).segment = 5
    ∧ (∀ m : Fin 8, m < 1 → (busy.slot m).state.live = true → (busy.slot m).segment ≠ 5)
    ∧ busy.brings 0 (requestWrite 3 0 9 0 0 0) (requestOf 3 0 9 0 0 0) = true
    ∧ (∀ m : Fin 8, (busy.slot m).state.live = true → (busy.slot m).segment ≠ 9) := by decide +kernel

theorem witness_ReplaceIsAnsweredGo :
    let q := requestOf 4 4000 6 450000 0 (baseOf 3)
    let decision := rungStep busy
    let limit := min (min (min decision ((busy.slot 3).advisedRung.getD decision)) ((busy.slot 3).rung - 1))
      (min busy.setup.capRung (rungCount busy.ladder - 1))
    busy.brings 0 (requestWrite 4 4000 6 450000 0 (baseOf 3)) q = true ∧ q.kind = 4 ∧ busy.sc.governor.decides = true
    ∧ (busy.slot 3).state.unlanded = true ∧ (busy.slot 3).segment = q.segment
    ∧ (∀ m : Fin 8, m < 3 → (busy.slot m).state.unlanded = true → (busy.slot m).segment ≠ q.segment)
    ∧ 1 ≤ (busy.slot 3).rung ∧ requestValid busy.windows q = true
    ∧ (∀ m : Fin 8, m ≠ 3 → (busy.slot m).state.live = true →
      (busy.slot m).base + (busy.slot m).capacity ≤ q.base ∨ q.base + q.capacity ≤ (busy.slot m).base)
    ∧ (∀ m : Fin 8, m < 3 → m ≠ 3 ∧ (busy.slot m).state ≠ .free) ∧ 3 ∉ busy.stu.queue
    ∧ 1 ≤ limit ∧ expectedBytes busy.ladder 1 q.duration ≤ q.capacity
    ∧ ∀ j, j ≤ limit → 1 < j → q.capacity < expectedBytes busy.ladder j q.duration := by decide +kernel

theorem witness_ReplaceStepsThatEndIt_state :
    let w := requestWrite 4 4000 6 450000 0 (baseOf 3)
    let q := requestOf 4 4000 6 450000 0 (baseOf 3)
    idle.brings 0 w q = true ∧ idle.sc.governor = .dormant ∧ (session .suspended).brings 0 w q = true
    ∧ (session .suspended).sc.governor = .suspended ∧ (session .adapting).brings 0 w q = true
    ∧ (session .adapting).sc.governor.decides = true
    ∧ (∀ n : Fin 8, ¬ (((session .adapting).slot n).state.unlanded = true ∧ ((session .adapting).slot n).segment = 6)) := by
  decide +kernel

/-- Segment 6 at rung 3 in slot 3, and, for an old rung of 0, the same slot at rung 0. -/
theorem witness_ReplaceStepsThatEndIt_request :
    ((busy.slot 3).state.unlanded = true ∧ (busy.slot 3).segment = 6 ∧ 1 ≤ (busy.slot 3).rung)
    ∧ (∀ m : Fin 8, m < 3 → ¬ ((busy.slot m).state.unlanded = true ∧ (busy.slot m).segment = 6))
    ∧ ((busy.setSlot 3 { advisedSlot with rung := 0 }).slot 3).rung = 0
    ∧ (busy.setSlot 3 { advisedSlot with rung := 0 }).brings 0 (requestWrite 4 0 6 0 0 0) (requestOf 4 0 6 0 0 0) = true
    ∧ busy.brings 0 (requestWrite 4 0 6 1 0 (baseOf 3)) (requestOf 4 0 6 1 0 (baseOf 3)) = true
    ∧ requestValid busy.windows (requestOf 4 0 6 1 0 (baseOf 3)) = false
    ∧ busy.brings 0 (requestWrite 4 1 6 1 0 (baseOf 0)) (requestOf 4 1 6 1 0 (baseOf 0)) = true
    ∧ requestValid busy.windows (requestOf 4 1 6 1 0 (baseOf 0)) = true
    ∧ (baseOf 0 < (busy.slot 0).base + (busy.slot 0).capacity ∧ (busy.slot 0).base < baseOf 0 + 1)
    ∧ busy.brings 0 (requestWrite 4 4000 6 1 0 (baseOf 3)) (requestOf 4 4000 6 1 0 (baseOf 3)) = true
    ∧ requestValid busy.windows (requestOf 4 4000 6 1 0 (baseOf 3)) = true
    ∧ (∀ m : Fin 8, ¬ (m ≠ 3 ∧ (busy.slot m).state.live = true ∧ baseOf 3 < (busy.slot m).base + (busy.slot m).capacity
      ∧ (busy.slot m).base < baseOf 3 + 1))
    ∧ 1 < expectedBytes busy.ladder 0 4000 := by decide +kernel

theorem witness_ReplaceStepsThatEndIt_small : LadderLegal busy.ladder
    ∧ busy.brings 0 (requestWrite 4 4000 6 1 0 (baseOf 3)) (requestOf 4 4000 6 1 0 (baseOf 3)) = true
    ∧ busy.sc.governor.decides = true ∧ (1 : Nat) < expectedBytes busy.ladder 0 4000 :=
  ⟨workedLadder_legal, by decide +kernel, by decide, by decide +kernel⟩

/-! ### Witnesses: the memory path and the slots -/

/-- Twelve bytes of the page from 0x3FA on, under a tag that matches nothing. -/
theorem witness_PlainWriteIsForwardedAlone :
    let w := writeOfBytes 0x800003FA 0x10 (List.replicate 12 1)
    busy.takesEvents = true ∧ (strobedBytes w).map (fun ab => busy.areaAt ab.1)
      = List.replicate 6 Area.plain ++ List.replicate 6 Area.report := by decide +kernel

/-- Fills of slot 0: at its mark, up to a length of 100,040, and, under tag 0x57, not a fill. -/
theorem witness_FillWriteMovesTheSlot :
    let w := writeOfBytes (baseOf 0 + 100000) 0x32 (List.replicate 40 7)
    let full := busy.setSlot 0 { fillingSlot with length := some 100040 }
    let done := busy.setSlot 0 { fillingSlot with length := some 100000 }
    busy.writeFallsIn w (.window 0) = true ∧ busy.fillMatches w.tag = true ∧ (busy.slot 0).state.unlanded = true
    ∧ (busy.slot 0).length = none ∧ full.writeFallsIn w (.window 0) = true ∧ full.fillMatches w.tag = true
    ∧ max (full.slot 0).fillMark (min (runEnd (strobedBytes w) - baseOf 0) 100040) = 100040
    ∧ done.writeFallsIn w (.window 0) = true ∧ 100000 ≤ runLow (strobedBytes w) - baseOf 0
    ∧ busy.writeFallsIn { w with tag := 0x57 } (.window 0) = true ∧ busy.fillMatches 0x57 = false := by decide +kernel

theorem witness_LandingTakesItsSteps :
    ((busy.setSlot 0 { fillingSlot with length := some 100000 }).slot 0).length = some 100000
    ∧ ((busy.setSlot 0 { fillingSlot with length := some 100000 }).slot 0).drainMark = 0 ∧ busy.setup.minSample ≤ 100000
    ∧ ((busy.setSlot 0 { fillingSlot with length := some 65535, fillMark := 65535 }).slot 0).drainMark = 0
    ∧ 65535 < busy.setup.minSample := by decide +kernel

theorem witness_LandingCreditsAnEarlierDrain :
    let part := busy.setSlot 0 { fillingSlot with length := some 100000, drainMark := 1 }
    let whole := busy.setSlot 0 { fillingSlot with length := some 100000, drainMark := 100000 }
    (part.slot 0).rung < 12 ∧ (part.slot 0).length = some 100000 ∧ 1 ≤ (part.slot 0).drainMark ∧ (part.slot 0).drainMark ≠ 100000
    ∧ (whole.slot 0).length = some 100000 ∧ 1 ≤ (whole.slot 0).drainMark ∧ (whole.slot 0).drainMark = 100000 := by decide +kernel

/-- A read of the last byte below the fill mark, and of the first beyond it. -/
theorem witness_DrainReadOfAnUnlandedSlot :
    busy.readFallsIn (readOfLength (baseOf 0 + 99999) 0x57 1) (.window 0) = true
    ∧ busy.readFallsIn (readOfLength (baseOf 0 + 100000) 0x57 1) (.window 0) = true
    ∧ busy.drainMatches (readOfLength (baseOf 0) 0x57 1).tag = true ∧ (busy.slot 0).state.unlanded = true
    ∧ (busy.slot 0).fillMark = 100000 ∧ (busy.slot 0).earlyUnderrun = false := by decide +kernel

/-- Reads of the draining slot 2, whose mark is 225,000: up to the mark, one byte on, up to the length of 450,000, and past it. -/
theorem witness_DrainReadOfALandedSlot :
    (∀ a ∈ [224999, 225000, 449999, 450000], busy.readFallsIn (readOfLength (baseOf 2 + a) 0x57 1) (.window 2) = true)
    ∧ busy.drainMatches (readOfLength (baseOf 2) 0x57 1).tag = true ∧ (busy.slot 2).state.hasLanded = true
    ∧ (busy.slot 2).length = some 450000 ∧ (busy.slot 2).drainMark = 225000 ∧ (busy.slot 2).rung < 12 := by decide +kernel

theorem snapshot_length : busy.eru.snapshot.length = 1024 := List.length_replicate

theorem witness_HeaderLineReadTakesASnapshot :
    busy.readFallsIn (readOfLength 0x8000043F 0x10 2) .report = true ∧ 0x8000043F % 4096 - 0x400 < 0x40
    ∧ busy.readFallsIn (readOfLength 0x80000440 0x10 2) .report = true ∧ 0x40 ≤ 0x80000440 % 4096 - 0x400
    ∧ busy.ccu.adoptedSetup.isSome = true ∧ busy.eru.snapshot.length = 1024 := by
  refine ⟨by decide +kernel, by decide, by decide +kernel, by decide, by decide, snapshot_length⟩

/-- A read over the edge of plain memory and the report's header line. -/
theorem witness_HeaderLineReadTakesASnapshot_across :
    let r := readOfLength 0x800003FE 0x10 4
    readOf (.headerLineRead r) = some r ∧ busy.takesEvents = true ∧ r.status = .ok ∧ r.spansReset = false
    ∧ r.data.length = 4 ∧ busy.inPage (r.addr.toNat + 2) = true ∧ (r.addr.toNat + 2) % 4096 = 0x400
    ∧ busy.areaAt r.addr.toNat = .plain := by decide +kernel

theorem witness_ReportShowsTheState : busy.stu.queue.length ≤ 8 ∧ busy.te.ring.length ≤ 8 := by decide

/-- A state with its three notes present. -/
def noted : State :=
  { busy with ccu := { busy.ccu with
      rejectionNote := some { position := .ladder, reason := .inuse, stamp := 9 }
      clampNote := some { position := .windows, count := 1, first := 5 }
      directiveNote := some { code := 1, entry := 2, reason := .armed } } }

theorem witness_ReportShowsTheState_notes : noted.stu.queue.length ≤ 8 ∧ noted.te.ring.length ≤ 8
    ∧ noted.ccu.rejectionNote.isSome = true ∧ noted.ccu.clampNote.isSome = true ∧ noted.ccu.directiveNote.isSome = true := by decide

/-- Section 10.2.2, R131, R5: the notes' bytes at 0x450 to 0x45B. -/
theorem test_report_shows_the_notes : (List.range 12).map (fun i => fieldsByte (reportFields noted) (0x450 + i))
    = [1, 3, 9, 0, 2, 1, 5, 0, 1, 2, 3, 0] := by decide +kernel

theorem witness_VerdictHalfReadsTheVerdict :
    readOf (.headerLineRead (readOfLength 0x80000C20 0x10 32)) = some (readOfLength 0x80000C20 0x10 32)
    ∧ busy.readFallsIn (readOfLength 0x80000C20 0x10 32) (.verdict 0) = true ∧ (busy.ticket 0).verdict = none
    ∧ answered.readFallsIn (readOfLength 0x80000C20 0x10 32) (.verdict 0) = true
    ∧ ((answered.ticket 0).verdict.map (fun v => (v.code, v.expected, v.bufferLevel, v.safeRate))) = some (.badreq, 0, 0, 0)
    ∧ (readOfLength 0x80000C20 0x10 32).addr.toNat % 64 = 32 ∧ (readOfLength 0x80000C20 0x10 32).data.length = 32 := by
  decide +kernel

/-- A read of a whole ticket, and one of its verdict half by itself. -/
theorem witness_VerdictHalfReadsTheVerdict_across :
    let r := readOfLength 0x80000C00 0x10 64
    let whole := readOfLength 0x80000C20 0x10 32
    readOf (.headerLineRead r) = some r ∧ readOf (.drainRead whole) = some whole ∧ answered.takesEvents = true
    ∧ r.status = .ok ∧ r.spansReset = false ∧ answered.readFallsIn whole (.verdict 0) = true ∧ whole.addr.toNat % 64 = 32
    ∧ whole.data.length = 32 ∧ 32 < r.data.length ∧ r.addr.toNat + 32 = whole.addr.toNat + 0 := by decide +kernel

theorem witness_SubstitutionStaysInItsAreas :
    let r := readOfLength (baseOf 0) 0x57 1
    readOf (.drainRead r) = some r ∧ exec (.drainRead r) busy = .next (after (.drainRead r) busy)
    ∧ busy.inPage (r.addr.toNat + 0) = false ∧ busy.takesEvents = true
    ∧ ({ r with status := .error } : ReadResponse).status = .error := by
  refine ⟨rfl, rfl, by decide +kernel, by decide +kernel, rfl⟩

theorem witness_WriteStatusTakesNothingBack :
    writeOf (.plainWrite (writeOfBytes 0 0 [1])) = some (writeOfBytes 0 0 [1])
    ∧ writeOf (.plainWrite { writeOfBytes 0 0 [1] with status := .error })
      = some { writeOfBytes 0 0 [1] with status := .error } := by decide

/-- A fill of two bytes, the last of slot 0's window and the first of slot 1's. -/
theorem witness_BurstIsSplitAtTheWindowEdge :
    let w := writeOfBytes (baseOf 1 - 1) 0x32 [7, 8]
    busy.takesEvents = true ∧ busy.fillMatches w.tag = true
    ∧ strobedBytes w = [(baseOf 1 - 1, 7)] ++ [(baseOf 1, 8)] ∧ (0 : Fin 8) ≠ 1
    ∧ busy.allFallIn [(baseOf 1 - 1, 7)] (.window 0) = true ∧ busy.allFallIn [(baseOf 1, 8)] (.window 1) = true := by
  decide +kernel

/-- One write that closes tickets 0 and 1: a FETCH and a DROP, with ticket 0's other 40 positions unstrobed. -/
def twoTickets : BusWrite :=
  { requestWrite 1 4000 8 2097152 0 (baseOf 4) with
    lanes := lanesOf (requestBytes 1 4000 8 2097152 0 (baseOf 4)) ++ List.replicate 40 ⟨0, false⟩ ++ lanesOf (requestBytes 3 0 5 0 0 0) }

theorem witness_BurstIsSplitAtTheWindowEdge_tickets :
    let w1 := requestWrite 1 4000 8 2097152 0 (baseOf 4)
    let w2 := writeOfBytes 0x80000C40 0x10 (requestBytes 3 0 5 0 0 0)
    let t := after (.fetch w1) busy
    w1.tag = twoTickets.tag ∧ w2.tag = twoTickets.tag ∧ strobedBytes twoTickets = strobedBytes w1 ++ strobedBytes w2
    ∧ busy.writeFallsIn w1 (.request 0) = true ∧ (∀ ab ∈ (strobedBytes w2).head?, busy.areaAt ab.1 ≠ .request 0)
    ∧ t.takesEvents = true ∧ t.fillMatches twoTickets.tag = busy.fillMatches twoTickets.tag := by decide +kernel

/-- A write over the edge of the SETUP and LADDER positions. -/
theorem witness_BurstIsSplitAtTheWindowEdge_positions :
    let w := writeOfBytes 0x800000FF 0x10 [1, 2]
    let w1 := writeOfBytes 0x800000FF 0x10 [1]
    let w2 := writeOfBytes 0x80000100 0x10 [2]
    let t := after (.setup w1) idle
    strobedBytes w = strobedBytes w1 ++ strobedBytes w2 ∧ idle.writeFallsIn w1 (.control .setup) = true
    ∧ (∀ ab ∈ (strobedBytes w2).head?, idle.areaAt ab.1 ≠ .control .setup)
    ∧ t.takesEvents = true ∧ t.fillMatches w.tag = idle.fillMatches w.tag := by decide +kernel

/-- A read over the edge of the windows of slots 1 and 2. -/
theorem witness_BurstIsSplitAtTheWindowEdge_read :
    let r1 := readOfLength (baseOf 2 - 1) 0x57 1
    let r2 := readOfLength (baseOf 2) 0x57 1
    let r := readOfLength (baseOf 2 - 1) 0x57 2
    r.data = r1.data ++ r2.data ∧ r1.addr = r.addr ∧ r2.addr.toNat = r.addr.toNat + r1.data.length
    ∧ busy.readFallsIn r1 (.window 1) = true ∧ busy.areaAt r2.addr.toNat = .window 2
    ∧ (∀ i, i < r2.data.length → busy.inPage (r2.addr.toNat + i) = false) := by decide +kernel

theorem witness_BaseAndTimeAreKept : exec .flush busy = .next (after .flush busy) ∧ isReset .flush = false := ⟨rfl, rfl⟩

/-! ### Witnesses: arithmetic -/

theorem witness_EffectiveRatesAreInRange : LadderLegal workedLadder ∧ (⟨3200, 10⟩ : Rung) ∈ workedLadder.rungs
    ∧ 1 ≤ (⟨400, 0⟩ : Rung).nominal ∧ (⟨400, 0⟩ : Rung).trim = 0
    ∧ (LadderLegal { rungs := [⟨64, 0⟩, ⟨65, 0⟩] } ∧ ∀ r ∈ [(⟨64, 0⟩ : Rung), ⟨65, 0⟩], r.trim = 0) :=
  ⟨workedLadder_legal, by decide, by decide, by decide, ⟨by constructor <;> decide, by decide⟩⟩

theorem witness_CandidateIsTheHighestWithinTheRate : 1 ≤ rungCount workedLadder
    ∧ (0 < rungCount workedLadder ∧ effectiveRate (ladderRung workedLadder 0) ≤ 400)
    ∧ (∀ k, k < rungCount workedLadder → ¬ effectiveRate (ladderRung workedLadder k) ≤ 399)
    ∧ (∀ k, k < rungCount workedLadder → effectiveRate (ladderRung workedLadder k) ≤ 8000)
    ∧ rungCount { rungs := [⟨64, 0⟩] } = 1 := by decide

theorem witness_CandidateBelowStaysBelow : (2 < 3 ∧ effectiveRate (ladderRung workedLadder 2) ≤ 1800)
    ∧ (∀ k, k < 3 → ¬ effectiveRate (ladderRung workedLadder k) ≤ 399) := by decide

theorem witness_EstimateMovesTowardTheSample : 1 ≤ 1 := by decide

theorem witness_SafeRateFollowsTheLowerEstimate : busy.ccu.adoptedSetup = some workedSetup ∧ SettingsInRange workedSetup
    ∧ busy.te.congestion = .clear ∧ busy.te.fast ≤ 1048575
    ∧ ({ busy with te := { busy.te with congestion := .congested } } : State).te.congestion = .congested :=
  ⟨rfl, workedSetup_inRange, rfl, by decide, rfl⟩

/-! ### Witnesses: the laws that every step keeps -/

/-- What `SlotLegal` asks of one slot, as a decision. -/
def slotIsLegal (x : Slot) (t : SlotTimers) : Bool :=
  decide (x.state = .free → x = Slot.empty ∧ t = SlotTimers.stopped)
    && decide (x.state.live = true → 1 ≤ x.duration ∧ x.duration ≤ 20000 ∧ 1 ≤ x.capacity)
    && decide (x.drainMark ≤ x.fillMark ∧ x.fillMark ≤ x.capacity)
    && x.length.all (fun len => decide (1 ≤ len ∧ len ≤ x.capacity ∧ x.fillMark ≤ len))
    && decide (x.state.unlanded = true → x.length ≠ some x.fillMark)
    && decide (x.state = .issued → x.fillMark = 0 ∧ x.lastFill = none)
    && decide (x.state.hasLanded = true → x.length = some x.fillMark ∧ t = SlotTimers.stopped ∧ x.stalled = false)
    && decide (x.state = .landed → x.drainMark = 0)
    && decide (x.state = .draining → 1 ≤ x.drainMark ∧ x.drainMark < x.fillMark)
    && decide (x.advisedRung.isSome = true ↔ x.state = .advised)
    && decide (t.check.isSome = true ↔ x.state = .filling)
    && decide (t.grace.isSome = true → x.state = .advised)

theorem slotLegal_of_decision {x : Slot} {t : SlotTimers} (h : slotIsLegal x t = true) : SlotLegal x t := by
  simp only [slotIsLegal, Bool.and_eq_true, decide_eq_true_eq, Option.all_eq_true] at h
  obtain ⟨⟨⟨⟨⟨⟨⟨⟨⟨⟨⟨h1, h2⟩, h3⟩, h4⟩, h5⟩, h6⟩, h7⟩, h8⟩, h9⟩, h10⟩, h11⟩, h12⟩ := h
  exact ⟨h1, h2, h3, h4, h5, h6, h7, h8, h9, h10, h11, h12⟩

theorem busy_slotTable : SlotTableLegal busy where
  slot n := slotLegal_of_decision (by revert n; decide +kernel)
  segments := by decide +kernel
  windows := by decide +kernel
  queue := by decide +kernel
  sorted := by decide +kernel

theorem busy_session : SessionLegal busy where
  remembered := by decide +kernel
  warmupCount := by decide +kernel
  warmup := by decide +kernel
  configured := by decide +kernel
  armed := by decide +kernel
  setupStamp := by decide +kernel
  ladderStamp := by decide +kernel
  windowsStamp := by decide +kernel
  noRejected := by decide +kernel
  settling p := by cases p <;> decide +kernel
  counter := by decide +kernel
  counterZero := ⟨fun h => absurd h (by decide +kernel), fun h => absurd (h .setup) (by decide +kernel)⟩
  settings u h := by cases h; exact workedSetup_inRange
  ladder l h := by cases h; exact workedLadder_legal
  fast := by decide +kernel
  slow := by decide +kernel
  ring := by decide +kernel
  rates x h := by simp [busy, session] at h
  currentRung := by decide +kernel
  dwell := by decide +kernel
  tallies := by constructor <;> decide +kernel

theorem busy_agrees : SlotsAgree busy where
  reset h := absurd h (by decide +kernel)
  bounds w h := by cases h; decide +kernel
  inside n h := ⟨workedWindows, rfl, by revert n; decide +kernel⟩
  onLadder := by decide +kernel
  advisedBelow n k h := by
    have all : ∀ n : Fin 8, (busy.slot n).advisedRung.all (fun k => decide (k < (busy.slot n).rung)) = true := by
      decide +kernel
    simpa [h] using all n

theorem busy_buffers : BuffersCanonical busy where
  capture := by decide +kernel
  captureSize := by decide +kernel
  request := by decide +kernel
  requestSize := by decide +kernel
  snapshot := snapshot_length

/-- `busy` with DRAIN_READ waiting. -/
def waiting : State := { busy with pending := [.drainRead (readOfLength (baseOf 2 + 449936) 0x57 64)] }

theorem witness_StepsKeepTheBuffers : BuffersCanonical waiting ∧ ∃ t, step waiting = .next t :=
  ⟨⟨busy_buffers.1, busy_buffers.2, busy_buffers.3, busy_buffers.4, busy_buffers.5⟩, _, rfl⟩

theorem witness_StepsKeepTheSlotTable : SlotTableLegal waiting ∧ ∃ t, step waiting = .next t :=
  ⟨⟨busy_slotTable.1, busy_slotTable.2, busy_slotTable.3, busy_slotTable.4, busy_slotTable.5⟩, _, rfl⟩

theorem witness_StepsKeepTheSession : SessionLegal waiting ∧ ∃ t, step waiting = .next t :=
  ⟨{ busy_session with }, _, rfl⟩

theorem witness_StepsKeepSlotsInAgreement : SessionLegal waiting ∧ SlotsAgree waiting ∧ ∃ t, step waiting = .next t :=
  ⟨witness_StepsKeepTheSession.1, ⟨busy_agrees.1, busy_agrees.2, busy_agrees.3, busy_agrees.4, busy_agrees.5⟩, _, rfl⟩

theorem witness_BufferLevelFollowsTheDrain : SlotTableLegal busy ∧ 2 ∈ busy.stu.queue ∧ (busy.slot 2).length = some 450000
    ∧ (busy.slot 2).drainMark ≤ 450000 := ⟨busy_slotTable, by decide, by decide, by decide⟩

/-- A tick, and a FETCH refused as BADREQ, whose bytes fall in a request half. -/
theorem witness_TalliesOnlyGrow : TalliesInRange busy.eru.tallies ∧ exec .tick busy = .next (after .tick busy)
    ∧ writeOf .tick = none ∧ exec (.fetch (requestWrite 1 0 8 0 0 0)) busy = .next (after (.fetch (requestWrite 1 0 8 0 0 0)) busy)
    ∧ writeOf (.fetch (requestWrite 1 0 8 0 0 0)) = some (requestWrite 1 0 8 0 0 0)
    ∧ ∀ ab ∈ strobedBytes (requestWrite 1 0 8 0 0 0), busy.areaAt ab.1 ≠ .control .directive :=
  ⟨busy_session.tallies, rfl, rfl, rfl, rfl, by decide +kernel⟩

end Sys2Proof.Tests
end

section
/-! PROOF. The session's bounds under each operation of the part (O58): one lemma per shared operation, from the updates of single
fields up to the commands. -/

namespace Sys2Proof.Machine

/-! ### Tallies (R150) -/

theorem saturatingAdd_le (top x k : Nat) : saturatingAdd top x k ≤ top := min_le_right _ _

theorem tallies_inRange_zero : TalliesInRange Tallies.zero := by
  constructor
  case dwellTime => intro k; simp [Tallies.zero]
  all_goals exact Nat.zero_le _

/-- A tally that grows stays within its 32 bits, and the others stay as they were (R150). -/
theorem tallies_inRange_grow {t : Tallies} (h : TalliesInRange t) (kind : TallyKind) (k : Nat) :
    TalliesInRange (growTallies t kind k) := by
  cases kind
  case landed => exact { h with landed := saturatingAdd_le _ _ _ }
  case gated => exact { h with gated := saturatingAdd_le _ _ _ }
  case underruns => exact { h with underruns := saturatingAdd_le _ _ _ }
  case stalls => exact { h with stalls := saturatingAdd_le _ _ _ }
  case advices => exact { h with advices := saturatingAdd_le _ _ _ }
  case unheeded => exact { h with unheeded := saturatingAdd_le _ _ _ }
  case upSwitches => exact { h with upSwitches := saturatingAdd_le _ _ _ }
  case downSwitches => exact { h with downSwitches := saturatingAdd_le _ _ _ }
  case holds => exact { h with holds := saturatingAdd_le _ _ _ }
  case rejections => exact { h with rejections := saturatingAdd_le _ _ _ }
  case refusals => exact { h with refusals := saturatingAdd_le _ _ _ }
  case dwellTime rung =>
    simp only [growTallies]
    split
    · refine { h with dwellTime := fun j => ?_ }
      simp only [Fin.getElem_fin, Vector.getElem_set]
      split
      · exact saturatingAdd_le _ _ _
      · exact h.dwellTime j
    · exact h

/-! ### Updates that the session's bounds do not see, or see in one field -/

theorem SessionLegal.setSlot {s : State} (h : SessionLegal s) {n : Fin 8} {x : Slot}
    (hx : x.state.live = true → s.sc.governor.armed = true) : SessionLegal (s.setSlot n x) :=
  { h with
    armed := fun m hm => by
      rw [State.slot_setSlot] at hm
      split at hm
      · exact hx hm
      · exact h.armed m hm }

/-- A live slot may be replaced by any record: the session is armed already (R13). -/
theorem SessionLegal.setSlot_of_live {s : State} (h : SessionLegal s) {n : Fin 8} (x : Slot)
    (hn : (s.slot n).state.live = true) : SessionLegal (s.setSlot n x) := h.setSlot (fun _ => h.armed n hn)

theorem SessionLegal.setQueue {s : State} (h : SessionLegal s) (q : List (Fin 8)) : SessionLegal (s.setQueue q) := { h with }

theorem SessionLegal.setTimers {s : State} (h : SessionLegal s) (n : Fin 8) (x : SlotTimers) :
    SessionLegal (s.setTimers n x) := { h with }

theorem SessionLegal.setTicket {s : State} (h : SessionLegal s) (k : Fin 16) (x : Ticket) :
    SessionLegal (s.setTicket k x) := { h with }

theorem SessionLegal.raiseFlag {s : State} (h : SessionLegal s) (e : Event) : SessionLegal (raiseFlag s e) := { h with }

theorem SessionLegal.growTally {s : State} (h : SessionLegal s) (kind : TallyKind) (k : Nat) :
    SessionLegal (growTally s kind k) := { h with tallies := tallies_inRange_grow h.tallies kind k }

theorem SessionLegal.reportEvent {s : State} (h : SessionLegal s) (e : Event) (kind : TallyKind) :
    SessionLegal (reportEvent s e kind) := (h.raiseFlag e).growTally kind 1

theorem SessionLegal.takeSnapshot {s : State} (h : SessionLegal s) : SessionLegal (takeSnapshot s) :=
  have key : ∀ (m : List Byte) (c : Nat), SessionLegal { s with eru := { s.eru with snapshot := m }, freeCount := c } :=
    fun _ _ => { h with }
  key (reportBytes s) _

theorem SessionLegal.forwardWrite {s : State} (h : SessionLegal s) (w : BusWrite) : SessionLegal (forwardWrite s w) := { h with }

theorem SessionLegal.returnRead {s : State} (h : SessionLegal s) (r : ReadResponse) (data : List Byte) :
    SessionLegal (returnRead s r data) := { h with }

/-- The capture shadow and the three notes are not part of the bounds. -/
theorem SessionLegal.setNotes {s : State} (h : SessionLegal s) (shadow : ByteStore) (rejection : Option RejectionNote)
    (clamp : Option ClampNote) (directive : Option DirectiveNote) :
    SessionLegal { s with ccu := { s.ccu with
      shadow := shadow, rejectionNote := rejection, clampNote := clamp, directiveNote := directive } } := by
  have same : ∀ p : Position, State.position { s with ccu := { s.ccu with
      shadow := shadow, rejectionNote := rejection, clampNote := clamp, directiveNote := directive } } p = s.position p :=
    fun p => by cases p <;> rfl
  exact { h with
    settling := fun p => by rw [same]; exact h.settling p
    counterZero := by simp only [same]; exact h.counterZero }

theorem SessionLegal.noteDirective {s : State} (h : SessionLegal s) (code : Byte) (entry : Nat) (reason : DirectiveReason) :
    SessionLegal (noteDirective s code entry reason) := h.setNotes _ _ _ _

theorem SessionLegal.captureBytes {s : State} (h : SessionLegal s) (bytes : List (Nat × Byte)) :
    SessionLegal (captureBytes s bytes) := h.setNotes _ _ _ _

theorem SessionLegal.reportRejection {s : State} (h : SessionLegal s) (p : Position) (reason : RejectReason) :
    SessionLegal (reportRejection s p reason) := SessionLegal.reportEvent (h.setNotes _ _ _ _) _ _

theorem SessionLegal.freeSlot {s : State} (h : SessionLegal s) (n : Fin 8) : SessionLegal (freeSlot s n) :=
  ((h.setSlot (fun hx => by simp [Slot.empty, SlotState.live] at hx)).setQueue _).setTimers n _

/-! ### Every slot freed, and the session's values -/

theorem slot_of_emptied {s : State} (h : s.stu = State.reset.stu) (n : Fin 8) : s.slot n = Slot.empty := by
  simp [State.slot, h, State.reset]

theorem not_live_of_emptied {s : State} (h : s.stu = State.reset.stu) (n : Fin 8) : ¬ (s.slot n).state.live = true := by
  rw [slot_of_emptied h]; simp [Slot.empty, SlotState.live]

/-- With no slot live the governor may be any state that the remembered state, the warmup count and the configuration allow. -/
theorem SessionLegal.setSession {s : State} (h : SessionLegal s) {c : Sc} {t : Stu} {p : Pm}
    (remembered : c.remembered.isSome = true ↔ c.governor = .suspended) (warmupCount : c.warmupCount ≤ 255)
    (warmup : c.governor = .warmup → c.warmupCount < s.setup.warmupLength)
    (configured : c.governor ≠ .dormant → s.configured = true)
    (armed : ∀ n : Fin 8, t.slots[n].state.live = true → c.governor.armed = true) :
    SessionLegal { s with sc := c, stu := t, pm := p } :=
  { h with
    remembered := remembered, warmupCount := warmupCount, warmup := warmup, configured := configured, armed := armed }

end Sys2Proof.Machine
end

section
/-! PROOF. What adoption takes is in range, and what the estimator and the slot table do keeps the session's bounds. -/

namespace Sys2Proof.Machine

/-! ### The settings and the ladder that adoption takes -/

theorem clampTo_value_ge (low high v : Nat) : low ≤ (clampTo low high v).value := le_max_left _ _

theorem clampTo_value_le {low high : Nat} (h : low ≤ high) (v : Nat) : (clampTo low high v).value ≤ high :=
  max_le h (min_le_right _ _)

/-- Adoption takes every field of a SETUP record in its range, whatever the record's bytes (R140). -/
theorem settings_inRange_readSetup (m : ByteStore) : SettingsInRange (settingsValues (readSetup m)) where
  mode := clampTo_value_le (by decide) _
  pinnedRung := clampTo_value_le (by decide) _
  startRung := clampTo_value_le (by decide) _
  capRung := clampTo_value_le (by decide) _
  shiftFast := ⟨clampTo_value_ge _ _ _, clampTo_value_le (by decide) _⟩
  shiftSlow :=
    ⟨(clampTo_value_ge _ _ _).trans (le_max_left _ _),
      max_le (clampTo_value_le (by decide) _)
        ((Nat.succ_le_succ (clampTo_value_le (by decide) _)).trans (show 4 + 1 ≤ 7 by decide)),
      le_max_right _ _⟩
  dwellMin := clampTo_value_le (by decide) _
  warmupLength := clampTo_value_le (by decide) _
  abandonEnable := clampTo_value_le (by decide) _
  sigma := ⟨clampTo_value_ge _ _ _, clampTo_value_le (by decide) _⟩
  sigmaCongested := ⟨clampTo_value_ge _ _ _, clampTo_value_le (clampTo_value_ge _ _ _) _⟩
  rhoIn := ⟨clampTo_value_ge _ _ _, clampTo_value_le (by decide) _⟩
  rhoOut :=
    ⟨clampTo_value_ge _ _ _, clampTo_value_le (Nat.add_le_add_right (clampTo_value_le (by decide : 64 ≤ 250) _) 6) _⟩
  gapLimit := ⟨clampTo_value_ge _ _ _, clampTo_value_le (by decide) _⟩
  stallTime := ⟨clampTo_value_ge _ _ _, clampTo_value_le (by decide) _⟩
  checkTime := ⟨clampTo_value_ge _ _ _, clampTo_value_le (by decide) _⟩
  guard := clampTo_value_le (by decide) _
  graceTime := ⟨le_max_right _ _, max_le (clampTo_value_le (by decide) _) (by decide)⟩
  seed := clampTo_value_le (by decide) _
  minSample := clampTo_value_le (by decide) _
  bPanic := clampTo_value_le (by decide) _
  bUp := ⟨le_max_right _ _, max_le (clampTo_value_le (by decide) _) (clampTo_value_le (by decide) _)⟩
  bTarget := clampTo_value_le (by decide) _
  bFull :=
    ⟨le_max_right _ _, max_le ((clampTo_value_le (by decide) _).trans (show 120000 ≤ 120010 by decide))
      (Nat.add_le_add_right (clampTo_value_le (by decide : 0 ≤ 120000) _) 10)⟩

theorem readField_lt (m : ByteStore) (a width : Nat) : readField m a width < 256 ^ width := by
  induction width generalizing a with
  | zero => simp [readField]
  | succ w ih =>
    have hb := (readByte m a).isLt
    have hr := ih (a + 1)
    rw [readField, pow_succ]
    omega

theorem signedByte_range {v : Nat} (h : v < 256) : -128 ≤ signedByte v ∧ signedByte v ≤ 127 := by
  unfold signedByte
  split <;> omega

/-- The rates pass the shape test from a lower bound of at least 64 on when all reach it and they strictly rise (R81). -/
theorem ratesRise_iff {low : Nat} (h : 64 ≤ low) (l : List Rung) : ratesRise low l = true ↔
    (∀ r ∈ l, low ≤ r.nominal) ∧ l.Pairwise (fun a b => a.nominal < b.nominal) := by
  induction l generalizing low with
  | nil => simp [ratesRise]
  | cons r rest ih =>
    simp only [ratesRise, Bool.and_eq_true, decide_eq_true_eq, List.forall_mem_cons, List.pairwise_cons]
    constructor
    · rintro ⟨hr, hrest⟩
      obtain ⟨hall, hrise⟩ := (ih (by omega)).1 hrest
      exact ⟨⟨hr, fun x hx => by have := hall x hx; omega⟩, fun x hx => by have := hall x hx; omega, hrise⟩
    · rintro ⟨⟨hr, -⟩, habove, hrise⟩
      exact ⟨hr, (ih (by omega)).2 ⟨fun x hx => by have := habove x hx; omega, hrise⟩⟩

/-- A LADDER record that passes its shape test gives a legal ladder (R79, R81). -/
theorem ladderLegal_readLadder {m : ByteStore} (h : ladderShape m = true) : LadderLegal (readLadder m) := by
  simp only [ladderShape, Bool.and_eq_true, decide_eq_true_eq, ratesRise_iff (le_refl 64)] at h
  obtain ⟨⟨hone, htwelve⟩, hlow, hrise⟩ := h
  refine ⟨by simp [rungCount, readLadder, hone, htwelve], fun r hr => ?_, hrise⟩
  refine ⟨hlow r hr, ?_⟩
  obtain ⟨k, -, rfl⟩ := List.mem_map.1 hr
  have hrate := readField_lt m (0x104 + 4 * k) 2
  have htrim := signedByte_range (readField_lt m (0x106 + 4 * k) 1)
  exact ⟨by simp only [readRung]; omega, htrim⟩

/-! ### The settings in force in a legal session -/

theorem SessionLegal.adopted {s : State} (h : SessionLegal s) (hg : s.sc.governor ≠ .dormant) :
    s.ccu.adoptedSetup.isSome = true ∧ s.ccu.adoptedLadder.isSome = true ∧ s.ccu.adoptedWindows.isSome = true := by
  have hc := h.configured hg
  simp only [State.configured, Bool.and_eq_true, decide_eq_true_eq] at hc
  obtain ⟨⟨hs, hl⟩, hw⟩ := hc
  exact ⟨h.setupStamp.1 hs, h.ladderStamp.1 hl, h.windowsStamp.1 hw⟩

/-- Out of DORMANT the settings in force are in range (R1, R3). -/
theorem SessionLegal.setup_inRange {s : State} (h : SessionLegal s) (hg : s.sc.governor ≠ .dormant) :
    SettingsInRange s.setup := by
  obtain ⟨u, hu⟩ := Option.isSome_iff_exists.1 (h.adopted hg).1
  rw [State.setup, hu]
  exact h.settings u hu

theorem Governor.ne_dormant_of_armed {g : Governor} (h : g.armed = true) : g ≠ .dormant := by
  rintro rfl; simp [Governor.armed] at h

/-- While a slot is live the settings in force are in range (R13). -/
theorem SessionLegal.setup_inRange_of_live {s : State} (h : SessionLegal s) {n : Fin 8}
    (hn : (s.slot n).state.live = true) : SettingsInRange s.setup :=
  h.setup_inRange (Governor.ne_dormant_of_armed (h.armed n hn))

/-! ### Estimates and samples (R63 to R67, R74) -/

/-- An estimate never passes the larger of its old value and the sample (R67). -/
theorem updatedEstimate_le_max {a : Nat} (ha : 1 ≤ a) (e x : Nat) : updatedEstimate e a x ≤ max e x := by
  obtain ⟨b, rfl⟩ := Nat.exists_eq_add_of_le' ha
  have hp : (0 : Int) < 2 ^ b := by positivity
  have step : ∀ d : Int, (d + 2 ^ b) / (2 ^ b * 2) ≤ max d 0 := fun d => by
    refine Int.lt_add_one_iff.1 (Int.ediv_lt_of_lt_mul (by positivity) ?_)
    rcases le_total d 0 with hd | hd
    · rw [max_eq_right hd]; nlinarith
    · rw [max_eq_left hd]; nlinarith
  have := step ((x : Int) - e)
  simp only [updatedEstimate, Nat.add_sub_cancel, pow_succ]
  omega

theorem SessionLegal.reevaluateCongestion {s : State} (h : SessionLegal s) : SessionLegal (reevaluateCongestion s) := by
  rw [reevaluateCongestion_eq]
  exact { h with }

/-- A passed sample's count, and WARMUP left once W samples have passed (R13). -/
theorem SessionLegal.countWarmup {s : State} (h : SessionLegal s) : SessionLegal (countWarmup s) := by
  have hcount : saturatingAdd 255 s.sc.warmupCount 1 ≤ 255 := saturatingAdd_le _ _ _
  unfold Machine.countWarmup
  dsimp only
  split
  · rename_i hw
    obtain ⟨hwarm, hW⟩ := hw
    refine h.setSession ?_ hcount (by simp) (fun _ => h.configured (by simp [hwarm])) (fun _ _ => rfl)
    have := h.remembered
    simp_all
  · rename_i hw
    refine h.setSession h.remembered hcount (fun hg => ?_) h.configured h.armed
    exact Nat.lt_of_not_le (fun hW => hw ⟨hg, hW⟩)

/-- A passed sample enters the ring and moves both estimates within their range (R65, R66). -/
theorem SessionLegal.takePassedSample {s : State} (h : SessionLegal s) (hu : SettingsInRange s.setup) {x : Sample}
    (hx : x.rate ≤ rateTop) : SessionLegal (takePassedSample s x) := by
  have hring : ∀ y ∈ pushSample s.te.ring x, y.rate ≤ rateTop := fun y hy => by
    rcases List.mem_cons.1 (List.mem_of_mem_take hy) with rfl | hy
    · exact hx
    · exact h.rates y hy
  have entered : SessionLegal { s with te := { s.te with ring := pushSample s.te.ring x } } :=
    { h with ring := by simp [pushSample], rates := hring }
  have estimated : SessionLegal { s with te := { s.te with
      ring := pushSample s.te.ring x
      fast := updatedEstimate s.te.fast s.setup.shiftFast x.rate
      slow := updatedEstimate s.te.slow s.setup.shiftSlow x.rate } } :=
    { entered with
      fast := (updatedEstimate_le_max hu.shiftFast.1 _ _).trans (max_le h.fast hx)
      slow := (updatedEstimate_le_max (le_trans (by decide) hu.shiftSlow.1) _ _).trans (max_le h.slow hx) }
  have valid : ∀ t : State, SessionLegal t → SessionLegal { t with te := { t.te with valid := true } } :=
    fun t ht => { ht with }
  exact (valid _ estimated.reevaluateCongestion).countWarmup

theorem SessionLegal.takeSample {s : State} (h : SessionLegal s) (hu : SettingsInRange s.setup) {x : Sample}
    (hx : x.rate ≤ rateTop) : SessionLegal (takeSample s x) := by
  unfold Machine.takeSample
  split
  · exact h.growTally _ _
  · exact h.takePassedSample hu hx

/-! ### Slots: landing, fill, drain, declared length (R38 to R49) -/

theorem SessionLegal.consume {s : State} (h : SessionLegal s) (n : Fin 8) : SessionLegal (consume s n) := by
  rw [consume_eq]
  split
  · exact (h.freeSlot n).reportEvent _ _
  · exact h.freeSlot n

theorem SessionLegal.landRead {s : State} (h : SessionLegal s) {n : Fin 8} (hn : (s.slot n).state.live = true) :
    SessionLegal (landRead s n) := by
  unfold Machine.landRead
  dsimp only
  have draining : SessionLegal ((Machine.growTally s (.dwellTime (s.slot n).rung) ((s.slot n).played (s.slot n).drainMark)).setSlot n
      { s.slot n with state := .draining }) := (h.growTally _ _).setSlot_of_live _ hn
  split
  · exact h
  · split
    · exact draining.consume n
    · exact draining

theorem slot_before_credit (s : State) (n m : Fin 8) (x : Sample) :
    (growTally (takeSample (landedTable s n) x) .landed 1).slot m = (landedTable s n).slot m :=
  congrArg (fun t : Stu => t.slots[m]) (land_before_credit s n x).1

theorem SessionLegal.land {s : State} (h : SessionLegal s) {n : Fin 8} (hn : (s.slot n).state.live = true) :
    SessionLegal (land s n) := by
  rw [land_eq]
  have table : SessionLegal (landedTable s n) := ((h.setSlot_of_live _ hn).setQueue _).setTimers n _
  refine ((table.takeSample (h.setup_inRange_of_live hn) (min_le_right _ _)).growTally _ _).landRead ?_
  rw [slot_before_credit]
  simp [landedTable, Slot.landedRecord, SlotState.live]

theorem SessionLegal.landIfFull {s : State} (h : SessionLegal s) {n : Fin 8} (hn : (s.slot n).state.live = true) :
    SessionLegal (landIfFull s n) := by
  unfold Machine.landIfFull
  split
  · exact h.land hn
  · exact h

theorem live_filled {x : Slot} (hx : x.state.live = true) (fillEnd : Nat) (now : Tick) (gapLimit : Nat) :
    (x.filled fillEnd now gapLimit).state.live = true := by
  simp only [Slot.filled]
  split
  · rfl
  · exact hx

theorem SessionLegal.fillObservation {s : State} (h : SessionLegal s) (n : Fin 8) (low fillEnd : Nat) :
    SessionLegal (fillObservation s n low fillEnd) := by
  rw [fillObservation_eq]
  split
  · rename_i hc
    rw [Bool.and_eq_true] at hc
    have hn := SlotState.live_of_unlanded hc.1
    exact SessionLegal.landIfFull ((h.setSlot_of_live _ hn).setTimers n _)
      (by simpa [countedFill] using live_filled hn fillEnd s.now s.setup.gapLimit)
  · exact h

theorem SessionLegal.drainObservation {s : State} (h : SessionLegal s) (n : Fin 8) (drainEnd : Nat) :
    SessionLegal (drainObservation s n drainEnd) := by
  unfold Machine.drainObservation
  split
  · rename_i hu
    have hn := SlotState.live_of_unlanded hu
    unfold drainUnlanded
    dsimp only
    split
    · exact (h.setSlot_of_live _ hn).reportEvent _ _
    · exact h.setSlot_of_live _ hn
  · split
    · rename_i hl
      have hn := SlotState.live_of_hasLanded hl
      unfold drainLanded
      dsimp only
      split
      · exact h
      · split
        · exact ((h.setSlot_of_live _ hn).growTally _ _).consume n
        · exact (h.setSlot_of_live _ hn).growTally _ _
    · exact h

theorem state_withLength (x : Slot) (v : Nat) : (x.withLength v).state = x.state := by
  unfold Slot.withLength
  split
  · rfl
  · split <;> rfl

theorem SessionLegal.declareLength {s : State} (h : SessionLegal s) {n : Fin 8} (hn : (s.slot n).state.live = true)
    (v : Nat) : SessionLegal (declareLength s n v) := by
  unfold Machine.declareLength
  dsimp only
  have marked := h.setSlot_of_live (n := n) ((s.slot n).withLength v) hn
  have live : ((s.setSlot n ((s.slot n).withLength v)).slot n).state.live = true := by
    rw [State.slot_setSlot_same, state_withLength]; exact hn
  split
  · exact (marked.raiseFlag _).landIfFull live
  · exact marked.landIfFull live

end Sys2Proof.Machine
end

section
/-! PROOF. Decisions, expiries and record positions keep the session's bounds. -/

namespace Sys2Proof.Machine

/-! ### Decisions (R97 to R111) -/

theorem capRung_le (s : State) (rung : Nat) : capRung s rung ≤ s.setup.capRung :=
  (min_le_right _ _).trans (min_le_left _ _)

theorem SessionLegal.noteRung {s : State} (h : SessionLegal s) {rung : Nat} (hr : rung ≤ 11) :
    SessionLegal (noteRung s rung) := by
  unfold Machine.noteRung
  dsimp only
  split
  · exact { h with dwell := saturatingAdd_le _ _ _ }
  · have moved : SessionLegal { s with vu := { s.vu with currentRung := rung, dwell := 1 } } :=
      { h with currentRung := hr, dwell := Nat.le_of_ble_eq_true rfl }
    exact moved.reportEvent _ _

theorem SessionLegal.capFitGo {s : State} (h : SessionLegal s) (hg : s.sc.governor.armed = true) (q : Request)
    (rung : Nat) : SessionLegal (capFitGo s q rung).2 := by
  have hu := h.setup_inRange (Governor.ne_dormant_of_armed hg)
  obtain ⟨-, hd⟩ | ⟨n, -, -, hd⟩ | ⟨n, k, e, -, hfit, hd⟩ := capFitGo_cases s q rung
  · rw [hd]; exact h.growTally _ _
  · rw [hd]; exact h.growTally _ _
  · rw [hd]
    have hk : k ≤ 11 := ((capacityFit_some hfit).1.trans (capRung_le s rung)).trans hu.capRung
    exact SessionLegal.noteRung ((h.setSlot (fun _ => hg)).setTimers n _) hk

/-- What a FETCH can leave: the state as it was, a tally grown, or in the armed states what the GO steps leave (R97). -/
theorem decideFetch_state_cases (s : State) (q : Request) :
    (decideFetch s q).2 = s ∨ (∃ kind, (decideFetch s q).2 = growTally s kind 1)
      ∨ s.sc.governor.armed = true ∧ (decideFetch s q).2 = (capFitGo s q (rungStep s)).2 := by
  have decided {g : Governor} (hg : g.decides = true) (hs : s.sc.governor = g) : s.sc.governor.armed = true := by
    rw [hs]; cases g <;> simp_all [Governor.decides, Governor.armed]
  unfold decideFetch
  split
  any_goals exact .inl rfl
  all_goals
    rename_i hs
    split
    · exact .inr (.inl ⟨_, rfl⟩)
    · split
      · exact .inr (.inl ⟨_, rfl⟩)
      · split
        · exact .inr (.inl ⟨_, rfl⟩)
        · split
          · exact .inr (.inl ⟨_, rfl⟩)
          · split
            · exact .inr (.inl ⟨_, rfl⟩)
            · exact .inr (.inr ⟨decided rfl hs, rfl⟩)

theorem SessionLegal.decideFetch {s : State} (h : SessionLegal s) (q : Request) : SessionLegal (decideFetch s q).2 := by
  obtain hd | ⟨kind, hd⟩ | ⟨hg, hd⟩ := decideFetch_state_cases s q
  · rw [hd]; exact h
  · rw [hd]; exact h.growTally _ _
  · rw [hd]; exact h.capFitGo hg q _

theorem SessionLegal.decideLength {s : State} (h : SessionLegal s) (q : Request) : SessionLegal (decideLength s q).2 := by
  unfold Machine.decideLength
  split
  · exact h.growTally _ _
  · split
    · exact h
    · rename_i n hn
      split
      · exact h
      · split
        · exact h
        · exact h.declareLength (liveHolding_eq_some.1 hn).1.1 _

theorem SessionLegal.decideDrop {s : State} (h : SessionLegal s) (q : Request) : SessionLegal (decideDrop s q).2 := by
  unfold Machine.decideDrop
  split
  · exact h
  · exact h.freeSlot _

theorem SessionLegal.decideRefetch {s : State} (h : SessionLegal s) (hg : s.sc.governor.armed = true) (q : Request)
    (old : Slot) : SessionLegal (decideRefetch s q old).2 := by
  unfold Machine.decideRefetch
  split
  · exact h.growTally _ _
  · split
    · exact h.growTally _ _
    · exact h.capFitGo hg q _

theorem SessionLegal.decideReplace {s : State} (h : SessionLegal s) (q : Request) :
    SessionLegal (decideReplace s q).2 := by
  unfold Machine.decideReplace
  split
  any_goals exact h
  all_goals
    split
    · exact h
    · rename_i n hn
      split
      · exact h.growTally _ _
      · exact (h.freeSlot _).decideRefetch
          (h.armed n (SlotState.live_of_unlanded (unlandedHolding_eq_some.1 hn).1.1)) q _

theorem SessionLegal.decideRequest {s : State} (h : SessionLegal s) (q : Request) :
    SessionLegal (decideRequest s q).2 := by
  unfold Machine.decideRequest
  split
  · exact h.decideFetch q
  · split
    · exact h.decideLength q
    · split
      · exact h.decideDrop q
      · split
        · exact h.decideReplace q
        · exact h.growTally _ _

theorem SessionLegal.requestRun {s : State} (h : SessionLegal s) (k : Fin 16) (bytes : List (Nat × Byte)) :
    SessionLegal (requestRun s k bytes) := by
  have shadowed : SessionLegal (shadowRequest s k bytes) := h.setTicket k _
  unfold Machine.requestRun closeTicket
  dsimp only
  split
  · split
    · exact shadowed.setTicket k _
    · split
      · exact shadowed
      · exact (shadowed.decideRequest _).setTicket k _
  · exact shadowed

/-! ### Expiries and time (R33, R120 to R126, R136) -/

theorem live_of_issued_or_filling {x : Slot} (h : x.state = .issued ∨ x.state = .filling) : x.state.live = true := by
  obtain h | h := h <;> rw [h] <;> rfl

theorem SessionLegal.advise {s : State} (h : SessionLegal s) {n : Fin 8} (hn : (s.slot n).state.live = true) :
    SessionLegal (advise s n) := ((h.setSlot_of_live _ hn).reportEvent _ _).setTimers n _

theorem SessionLegal.checkExpires {s : State} (h : SessionLegal s) (n : Fin 8) : SessionLegal (checkExpires s n) := by
  unfold Machine.checkExpires
  dsimp only
  split
  · rename_i hf
    split
    · exact h.advise (live_of_issued_or_filling (.inr hf))
    · exact h.setTimers n _
  · exact h.setTimers n _

/-- A slot marked stalled is live when it was: its state stands (R124). -/
theorem SessionLegal.stallExpires {s : State} (h : SessionLegal s) (n : Fin 8) : SessionLegal (stallExpires s n) := by
  unfold Machine.stallExpires
  dsimp only
  have marked : SessionLegal (Machine.reportEvent ((s.setTimers n { s.timers n with stall := none }).setSlot n
      { s.slot n with stalled := true }) .stall .stalls) :=
    ((h.setTimers n _).setSlot (x := { s.slot n with stalled := true }) (h.armed n)).reportEvent _ _
  split
  · rename_i hc
    simp only [Bool.and_eq_true, Bool.or_eq_true, decide_eq_true_eq] at hc
    exact marked.advise (by simpa using live_of_issued_or_filling hc.1)
  · exact marked

theorem SessionLegal.graceExpires {s : State} (h : SessionLegal s) (n : Fin 8) : SessionLegal (graceExpires s n) :=
  (h.setTimers n _).reportEvent _ _

theorem SessionLegal.slotExpiries {s : State} (h : SessionLegal s) (n : Fin 8) : SessionLegal (slotExpiries s n) := by
  have stall : SessionLegal (stallIfDue s n) := by
    unfold stallIfDue
    split
    · exact h.stallExpires n
    · exact h
  have check : SessionLegal (checkIfDue (stallIfDue s n) n) := by
    unfold checkIfDue
    split
    · exact stall.checkExpires n
    · exact stall
  unfold Machine.slotExpiries graceIfDue
  split
  · exact check.graceExpires n
  · exact check

/-- A record position keeps its adopted stamp, runs its settle timer while it is pending, and holds a rejected stamp at LADDER or
WINDOWS alone (R131). -/
theorem SessionLegal.setPosition {s : State} (h : SessionLegal s) {p : Position} {x : PositionState}
    (stamp : x.adoptedStamp = (s.position p).adoptedStamp) (settling : x.settle.isSome = x.pending)
    (rejected : p = .setup ∨ p = .directive → x.rejectedStamp = 0) : SessionLegal (s.setPosition p x) := by
  have adopted : ∀ q : Position, ((s.setPosition p x).position q).adoptedStamp = (s.position q).adoptedStamp := fun q => by
    rw [State.position_setPosition]
    split
    · rename_i hq; rw [hq, stamp]
    · rfl
  have settled : ∀ q : Position, ((s.setPosition p x).position q).settle.isSome = ((s.setPosition p x).position q).pending :=
    fun q => by
      rw [State.position_setPosition]
      split
      · exact settling
      · exact h.settling q
  have zero : (s.setPosition p x).ccu.counter = 0 ↔ ∀ q : Position, ((s.setPosition p x).position q).adoptedStamp = 0 := by
    simpa only [adopted, State.setPosition_counter] using h.counterZero
  have configured : (s.setPosition p x).configured = s.configured := by
    have hs := adopted .setup
    have hl := adopted .ladder
    have hw := adopted .windows
    simp only [State.position] at hs hl hw
    simp only [State.configured, hs, hl, hw]
  have kept : s.sc.governor ≠ .dormant → (s.setPosition p x).configured = true := fun hg =>
    configured.trans (h.configured hg)
  cases p
  case setup =>
    exact { h with
      settling := settled, counterZero := zero, configured := kept, setupStamp := stamp ▸ h.setupStamp
      noRejected := ⟨rejected (.inl rfl), h.noRejected.2⟩ }
  case ladder => exact { h with settling := settled, counterZero := zero, configured := kept, ladderStamp := stamp ▸ h.ladderStamp }
  case windows => exact { h with settling := settled, counterZero := zero, configured := kept, windowsStamp := stamp ▸ h.windowsStamp }
  case directive =>
    exact { h with
      settling := settled, counterZero := zero, configured := kept, noRejected := ⟨h.noRejected.1, rejected (.inr rfl)⟩ }

end Sys2Proof.Machine
end

section
/-! PROOF. Settle expiries, time, the directives and RESTART keep the session's bounds. -/

namespace Sys2Proof.Machine

/-! ### Settle expiries, and all that is due (R34, R136) -/

theorem SessionLegal.settle {s : State} (h : SessionLegal s) (p : Position) :
    SessionLegal (s.setPosition p (s.position p).settled) := by
  refine h.setPosition rfl rfl (fun hp => ?_)
  obtain rfl | rfl := hp
  · exact h.noRejected.1
  · exact h.noRejected.2

theorem SessionLegal.settleExpires {s : State} (h : SessionLegal s) (p : Position) : SessionLegal (settleExpires s p) := by
  unfold Machine.settleExpires
  dsimp only
  split
  · exact (h.settle p).reportRejection p _
  · exact h.settle p

/-- An operation that keeps the session's bounds keeps them over a list. -/
theorem SessionLegal.foldl {α : Type} {f : State → α → State} (hf : ∀ s a, SessionLegal s → SessionLegal (f s a)) {s : State}
    (h : SessionLegal s) (l : List α) : SessionLegal (l.foldl f s) := by
  induction l generalizing s with
  | nil => exact h
  | cons a l ih => exact ih (hf s a h)

theorem SessionLegal.settleExpiries {s : State} (h : SessionLegal s) : SessionLegal (settleExpiries s) := by
  have counted : ∀ t : State, SessionLegal t → ∀ c, SessionLegal { t with freeCount := c } := fun t ht c => { ht with }
  have expires : ∀ t p, SessionLegal t → SessionLegal (Machine.settleExpires t p) := fun t p ht => ht.settleExpires p
  unfold Machine.settleExpiries
  split
  · exact h
  · exact h.settleExpires _
  · exact counted _ (expires _ _ (SessionLegal.foldl expires h _)) _

theorem SessionLegal.takeDueExpiries {s : State} (h : SessionLegal s) : SessionLegal (takeDueExpiries s) :=
  SessionLegal.foldl (fun _ n ht => ht.slotExpiries n) h.settleExpiries _

theorem state_afterTick (x : Slot) (now : Tick) : (x.afterTick now).state = x.state := by
  unfold Slot.afterTick
  split <;> rfl

theorem SessionLegal.tickTime {s : State} (h : SessionLegal s) : SessionLegal (tickTime s) :=
  { h with
    armed := fun n hn => h.armed n (by
      simpa [Machine.tickTime, State.slot, state_afterTick] using hn) }

theorem SessionLegal.refclkTime {s : State} (h : SessionLegal s) : SessionLegal (refclkTime s) := by
  unfold Machine.refclkTime
  split
  · exact { h with }
  · exact h.tickTime

/-! ### Directives (Chapter 1) -/

theorem SessionLegal.freeAllSlots {s : State} (h : SessionLegal s) : SessionLegal (freeAllSlots s) :=
  { h with armed := fun n hn => absurd hn (not_live_of_emptied (s := Machine.freeAllSlots s) rfl n) }

/-- ARM in READY sets session values that keep the bounds: the count 0 is below a W above 0 (R6, R7). -/
theorem SessionLegal.armSession {s : State} (h : SessionLegal s) (hg : s.sc.governor = .ready) :
    SessionLegal (armSession s) := by
  have hne : s.sc.governor ≠ .dormant := by simp [hg]
  have hu := h.setup_inRange hne
  have hrem : s.sc.remembered.isSome ≠ true := fun hs => by simpa [hg] using h.remembered.1 hs
  have armed : ∀ n : Fin 8, ¬ (s.slot n).state.live = true := fun n hn => by simpa [hg, Governor.armed] using h.armed n hn
  unfold Machine.armSession
  dsimp only
  exact { h with
    remembered := by split <;> simpa using hrem
    warmupCount := by simp
    warmup := fun hw => Nat.pos_of_ne_zero (fun h0 : s.setup.warmupLength = 0 => by simp [h0] at hw)
    configured := fun _ => h.configured hne
    armed := fun n hn => absurd hn (armed n)
    fast := by
      dsimp only
      split
      · exact h.fast
      · exact hu.seed
    slow := by
      dsimp only
      split
      · exact h.slow
      · exact hu.seed
    currentRung := (min_le_left _ _).trans hu.startRung
    dwell := Nat.zero_le _ }

theorem SessionLegal.takeArm {s : State} (h : SessionLegal s) (entry : Nat) : SessionLegal (takeArm s entry) := by
  unfold Machine.takeArm
  split
  · rename_i hg; exact h.armSession hg
  all_goals exact h.noteDirective _ _ _

theorem SessionLegal.takeSuspend {s : State} (h : SessionLegal s) (entry : Nat) : SessionLegal (takeSuspend s entry) := by
  have suspended (r : Remembered) (hg : s.sc.governor.armed = true) :
      SessionLegal { s with sc := { s.sc with governor := .suspended, remembered := some r } } :=
    h.setSession (by simp) h.warmupCount (by simp) (fun _ => h.configured (Governor.ne_dormant_of_armed hg)) (fun _ _ => rfl)
  unfold Machine.takeSuspend
  split
  · rename_i hg; exact suspended _ (by rw [hg]; rfl)
  · rename_i hg; exact suspended _ (by rw [hg]; rfl)
  all_goals exact h.noteDirective _ _ _

/-- In SUSPENDED a state is remembered, and RESUME returns to it with the count below W or goes on to ADAPTING (R1, R9). -/
theorem resumedGovernor_cases {s : State} (h : SessionLegal s) (hg : s.sc.governor = .suspended) :
    resumedGovernor s = .adapting ∨ resumedGovernor s = .warmup ∧ s.sc.warmupCount < s.setup.warmupLength := by
  obtain ⟨r, hr⟩ := Option.isSome_iff_exists.1 (h.remembered.2 hg)
  unfold resumedGovernor
  rw [hr]
  cases r with
  | adapting => exact .inl rfl
  | warmup =>
    dsimp only
    split
    · exact .inl rfl
    · rename_i hW; exact .inr ⟨rfl, Nat.lt_of_not_le hW⟩

theorem SessionLegal.takeResume {s : State} (h : SessionLegal s) (entry : Nat) : SessionLegal (takeResume s entry) := by
  unfold Machine.takeResume
  split
  · rename_i hg
    have hc : s.configured = true := h.configured (by simp [hg])
    obtain hr | ⟨hr, hW⟩ := resumedGovernor_cases h hg
    · rw [hr]
      exact h.setSession (by simp) h.warmupCount (by simp) (fun _ => hc) (fun _ _ => rfl)
    · rw [hr]
      exact h.setSession (by simp) h.warmupCount (fun _ => hW) (fun _ => hc) (fun _ _ => rfl)
  all_goals exact h.noteDirective _ _ _

theorem SessionLegal.takeFlush {s : State} (h : SessionLegal s) : SessionLegal (takeFlush s) :=
  { h.freeAllSlots with dwell := Nat.zero_le _ }

theorem SessionLegal.takeTeardown {s : State} (h : SessionLegal s) (entry : Nat) : SessionLegal (takeTeardown s entry) := by
  have ended (hg : s.sc.governor.armed = true) (t : Vector Ticket 16) : SessionLegal { Machine.freeAllSlots s with
      sc := { s.sc with governor := .ready, remembered := none }, vu := { s.vu with tickets := t } } :=
    { h.freeAllSlots with
      remembered := by simp
      warmup := by simp
      configured := fun _ => h.configured (Governor.ne_dormant_of_armed hg)
      armed := fun n hn => absurd hn (not_live_of_emptied (s := Machine.freeAllSlots s) rfl n) }
  unfold Machine.takeTeardown
  split
  case h_4 => exact h.noteDirective _ _ _
  case h_5 => exact h.noteDirective _ _ _
  all_goals
    rename_i hg
    exact ended (by rw [hg]; rfl) _

theorem SessionLegal.seedEstimates {s : State} (h : SessionLegal s) (rate : BitVec 32) :
    SessionLegal (seedEstimates s rate) := by
  have seeded (c : Congestion) : SessionLegal { s with te := { s.te with
      fast := min rate.toNat rateTop, slow := min rate.toNat rateTop, congestion := c } } :=
    { h with fast := min_le_right _ _, slow := min_le_right _ _ }
  unfold Machine.seedEstimates clearCongestion
  dsimp only
  split
  · exact (seeded s.te.congestion).reevaluateCongestion
  · split
    · exact seeded s.te.congestion
    · exact (seeded .clear).raiseFlag _

theorem position_of_reset {t : State} (ccu : { t.ccu with shadow := [] } = State.reset.ccu) (p : Position) :
    t.position p = PositionState.reset := by
  have := congrArg (fun c : Ccu => State.position { t with ccu := c } p) ccu
  cases p <;> exact this

/-- The session as any reset leaves it (R2, R36, R60, R90, R132, R145). -/
theorem sessionLegal_of_reset {t : State} (sc : t.sc = State.reset.sc) (stu : t.stu = State.reset.stu)
    (te : t.te = State.reset.te) (vu : t.vu = State.reset.vu) (tallies : t.eru.tallies = Tallies.zero)
    (ccu : { t.ccu with shadow := [] } = State.reset.ccu) : SessionLegal t := by
  have same : ∀ p, t.position p = PositionState.reset := position_of_reset ccu
  have setup : t.ccu.adoptedSetup = none := congrArg Ccu.adoptedSetup ccu
  have ladder : t.ccu.adoptedLadder = none := congrArg Ccu.adoptedLadder ccu
  have windows : t.ccu.adoptedWindows = none := congrArg Ccu.adoptedWindows ccu
  have counter : t.ccu.counter = 0 := congrArg Ccu.counter ccu
  have s0 : t.ccu.posSetup = PositionState.reset := same .setup
  have l0 : t.ccu.posLadder = PositionState.reset := same .ladder
  have w0 : t.ccu.posWindows = PositionState.reset := same .windows
  have d0 : t.ccu.posDirective = PositionState.reset := same .directive
  constructor
  case armed => exact fun n hn => absurd hn (not_live_of_emptied stu n)
  case tallies => rw [tallies]; exact tallies_inRange_zero
  all_goals simp [sc, te, vu, same, setup, ladder, windows, counter, s0, l0, w0, d0, State.reset, PositionState.reset]

theorem SessionLegal.takeRestart (s : State) : SessionLegal (takeRestart s) :=
  SessionLegal.takeSnapshot (sessionLegal_of_reset rfl rfl rfl rfl rfl rfl)

theorem SessionLegal.takeEntry {s : State} (h : SessionLegal s) (code : Byte) (argument : BitVec 32) (entry : Nat) :
    SessionLegal (takeEntry s code argument entry) := by
  have clear : SessionLegal (clearAllTallies s) := { h with tallies := tallies_inRange_zero }
  have flags : ∀ f e, SessionLegal { s with eru := { s.eru with flags := f, enables := e } } := fun f e => { h with }
  unfold Machine.takeEntry
  split
  · exact h.takeArm entry
  split
  · exact h.takeSuspend entry
  split
  · exact h.takeResume entry
  split
  · exact h.takeFlush
  split
  · exact h.takeTeardown entry
  split
  · exact h.seedEstimates argument
  split
  · exact clear
  split
  · exact flags _ _
  split
  · exact flags _ _
  · exact h.noteDirective _ _ _

theorem SessionLegal.takeEntries {s : State} (h : SessionLegal s) (entry : Nat) (l : List (Byte × BitVec 32)) :
    SessionLegal (takeEntries s entry l) := by
  induction l generalizing s entry with
  | nil => exact h
  | cons x rest ih =>
    obtain ⟨code, argument⟩ := x
    unfold Machine.takeEntries
    split
    · exact h
    · split
      · exact SessionLegal.takeRestart s
      · exact ih (h.takeEntry code argument entry) _

end Sys2Proof.Machine
end

section
/-! PROOF. Adoptions, transactions and whole commands keep the session's bounds; and so does every step (O58). -/

namespace Sys2Proof.Machine

/-! ### Adoptions (R138 to R140) -/

/-- The position of an adopted record (R138, steps 2 and 3). -/
def PositionState.adopted (stamp : Byte) : PositionState :=
  { adoptedStamp := stamp, rejectedStamp := 0, pending := false, settle := none }

theorem readinessTest_eq (s : State) : readinessTest s = { s with sc := { s.sc with governor :=
    if s.sc.governor = .dormant ∧ s.configured = true then .ready else s.sc.governor } } := by
  unfold readinessTest
  split <;> rfl

theorem warmupTest_eq (s : State) : warmupTest s = { s with sc := { s.sc with governor :=
    if s.sc.governor = .warmup ∧ s.setup.warmupLength ≤ s.sc.warmupCount then .adapting else s.sc.governor } } := by
  unfold warmupTest
  split <;> rfl

theorem configured_iff (s : State) : s.configured = true ↔ (s.position .setup).adoptedStamp ≠ 0
    ∧ (s.position .ladder).adoptedStamp ≠ 0 ∧ (s.position .windows).adoptedStamp ≠ 0 := by
  simp [State.configured, State.position, and_assoc]

@[simp] theorem adoptContent_position (s : State) (p q : Position) : (adoptContent s p).position q = s.position q := by
  cases p <;> cases q <;> rfl

theorem stampAdopted_position (s : State) (p q : Position) : (stampAdopted s p).position q =
    if q = p then .adopted (shadowStamp s p) else s.position q := by
  cases p <;> cases q <;> rfl

theorem adoptContent_shadowStamp (s : State) (p q : Position) : shadowStamp (adoptContent s p) q = shadowStamp s q := by
  cases p <;> rfl

/-- The state that an adoption hands to SC: content in effect, stamps and counter moved (R138, steps 1 to 3). -/
def adoptedState (s : State) (p : Position) : State := stampAdopted (adoptContent s p) p

theorem adoptedState_position (s : State) (p q : Position) : (adoptedState s p).position q =
    if q = p then .adopted (shadowStamp s p) else s.position q := by
  rw [adoptedState, stampAdopted_position, adoptContent_shadowStamp, adoptContent_position]

theorem adoptedState_counter (s : State) (p : Position) : (adoptedState s p).ccu.counter = advanced s.ccu.counter := by
  cases p <;> rfl

theorem advanced_range (c : Nat) : 1 ≤ advanced c ∧ advanced c ≤ 63 := by
  unfold advanced
  split <;> omega

/-- What the bounds ask of positions and counter, once a record of a stamp other than 0 is adopted (R131, R139). -/
theorem adoptedState_bounds {s : State} (h : SessionLegal s) {p : Position} (hb : shadowStamp s p ≠ 0) :
    (∀ q, ((adoptedState s p).position q).settle.isSome = ((adoptedState s p).position q).pending)
      ∧ (adoptedState s p).ccu.counter ≤ 63
      ∧ ((adoptedState s p).ccu.counter = 0 ↔ ∀ q, ((adoptedState s p).position q).adoptedStamp = 0)
      ∧ (s.configured = true → (adoptedState s p).configured = true) := by
  have hc := advanced_range s.ccu.counter
  refine ⟨fun q => ?_, by rw [adoptedState_counter]; exact hc.2, ⟨fun h0 => ?_, fun h0 => ?_⟩, ?_⟩
  · rw [adoptedState_position]
    split
    · rfl
    · exact h.settling q
  · rw [adoptedState_counter] at h0; omega
  · have := h0 p
    rw [adoptedState_position, if_pos rfl] at this
    exact absurd this hb
  · simp only [configured_iff, adoptedState_position]
    rintro ⟨hs, hl, hw⟩
    refine ⟨?_, ?_, ?_⟩ <;> split <;> assumption

/-- An adopted SETUP with any governor state that its W, the stamps and the remembered state allow. -/
theorem SessionLegal.adoptSetup {s : State} (h : SessionLegal s) (hb : shadowStamp s .setup ≠ 0) {g : Governor}
    (suspended : g = .suspended ↔ s.sc.governor = .suspended)
    (warmup : g = .warmup → s.sc.warmupCount < (adoptedState s .setup).setup.warmupLength)
    (configured : g ≠ .dormant → (adoptedState s .setup).configured = true)
    (armed : s.sc.governor.armed = true → g.armed = true) :
    SessionLegal { adoptedState s .setup with sc := { s.sc with governor := g } } := by
  obtain ⟨settling, counter, zero, -⟩ := adoptedState_bounds h hb
  exact { h with
    remembered := h.remembered.trans suspended.symm
    warmup := warmup
    configured := configured
    armed := fun n hn => armed (h.armed n hn)
    setupStamp := ⟨fun _ => rfl, fun _ => hb⟩
    noRejected := ⟨rfl, h.noRejected.2⟩
    settling := settling
    counter := counter
    counterZero := zero
    settings := fun u hu => Option.some.inj hu ▸ settings_inRange_readSetup _ }

/-- A SETUP adoption with SC's two tests, as one change of the governor state (R3, R15, R138). -/
theorem adoptRecord_setup (s : State) : adoptRecord s .setup = { adoptedState s .setup with sc := { s.sc with governor :=
    if s.sc.governor = .dormant ∧ (adoptedState s .setup).configured = true then .ready
    else if s.sc.governor = .warmup ∧ (adoptedState s .setup).setup.warmupLength ≤ s.sc.warmupCount then .adapting
    else s.sc.governor } } := by
  have hsc : (adoptedState s .setup).sc = s.sc := rfl
  show warmupTest (readinessTest (adoptedState s .setup)) = _
  rw [warmupTest_eq, readinessTest_eq]
  simp only [hsc]
  by_cases hd : s.sc.governor = .dormant ∧ (adoptedState s .setup).configured = true
  · simp [hd]
  · simp only [if_neg hd]
    rfl

theorem SessionLegal.adoptRecord_setup {s : State} (h : SessionLegal s) (hb : shadowStamp s .setup ≠ 0) :
    SessionLegal (adoptRecord s .setup) := by
  obtain ⟨-, -, -, kept⟩ := adoptedState_bounds h hb
  rw [Machine.adoptRecord_setup]
  split
  · rename_i hd
    exact h.adoptSetup hb (by simp [hd.1]) (by simp) (fun _ => hd.2) (by simp [hd.1, Governor.armed])
  · split
    · rename_i hw
      exact h.adoptSetup hb (by simp [hw.1]) (by simp) (fun _ => kept (h.configured (by simp [hw.1]))) (fun _ => rfl)
    · rename_i hw
      exact h.adoptSetup hb Iff.rfl (fun hg => Nat.lt_of_not_le (fun hW => hw ⟨hg, hW⟩)) (fun hg => kept (h.configured hg)) id

theorem SessionLegal.readinessTest {s : State} (h : SessionLegal s) : SessionLegal (readinessTest s) := by
  unfold Machine.readinessTest
  split
  · rename_i hd
    refine h.setSession ?_ h.warmupCount (by simp) (fun _ => hd.2) (fun n hn => ?_)
    · have := h.remembered; simp_all
    · simpa [hd.1, Governor.armed] using h.armed n hn
  · exact h

/-- The tests that follow an adoption keep the bounds, and so does the directive list (R138, steps 4 and 5). -/
theorem SessionLegal.adoptRecord {s : State} (h : SessionLegal s) {p : Position} (hb : shadowStamp s p ≠ 0)
    (hp : shapePasses s p = true) : SessionLegal (adoptRecord s p) := by
  obtain ⟨settling, counter, zero, kept⟩ := adoptedState_bounds h hb
  cases p
  case setup => exact h.adoptRecord_setup hb
  case ladder =>
    have adopted : SessionLegal (adoptedState s .ladder) := { h with
      configured := fun hg => kept (h.configured hg)
      ladderStamp := ⟨fun _ => rfl, fun _ => hb⟩
      settling := settling
      counter := counter
      counterZero := zero
      ladder := fun l hl => Option.some.inj hl ▸ ladderLegal_readLadder hp }
    exact adopted.readinessTest
  case windows =>
    have adopted : SessionLegal (adoptedState s .windows) := { h with
      configured := fun hg => kept (h.configured hg)
      windowsStamp := ⟨fun _ => rfl, fun _ => hb⟩
      settling := settling
      counter := counter
      counterZero := zero }
    exact adopted.readinessTest
  case directive =>
    have adopted : SessionLegal (adoptedState s .directive) := { h with
      configured := fun hg => kept (h.configured hg)
      noRejected := ⟨h.noRejected.1, rfl⟩
      settling := settling
      counter := counter
      counterZero := zero }
    exact adopted.takeEntries 0 _

theorem SessionLegal.rejectRecord {s : State} (h : SessionLegal s) {p : Position} (hp : p ≠ .setup ∧ p ≠ .directive)
    (reason : RejectReason) : SessionLegal (rejectRecord s p reason) :=
  have stamped : SessionLegal (s.setPosition p { (s.position p).settled with rejectedStamp := shadowStamp s p }) :=
    h.setPosition rfl rfl (fun h' => absurd h' (not_or.2 hp))
  stamped.reportRejection p reason

theorem SessionLegal.evaluate {s : State} (h : SessionLegal s) (p : Position) : SessionLegal (evaluate s p) := by
  unfold Machine.evaluate
  dsimp only
  split
  · exact h.settle p
  rename_i hb
  split
  · refine h.setPosition rfl rfl (fun hp => ?_)
    obtain rfl | rfl := hp
    · exact h.noRejected.1
    · exact h.noRejected.2
  split
  · exact h.settle p
  split
  · rename_i hs
    exact h.rejectRecord (by constructor <;> rintro rfl <;> simp [shapePasses] at hs) _
  split
  · rename_i hu
    exact h.rejectRecord (by constructor <;> rintro rfl <;> simp [inUse] at hu) _
  · rename_i hs _
    exact h.adoptRecord hb (by simpa using hs)

/-! ### Transactions and commands -/

/-- A property that every run keeps is kept by a whole observation (R19). -/
theorem handRuns_keeps {P : State → Prop} {take : Area → List (Nat × Byte) → State → State}
    (h : ∀ area run s, P s → P (take area run s)) (fuel : Nat) (bytes : List (Nat × Byte)) {s : State} (hs : P s) :
    P (handRuns take fuel bytes s) := by
  induction fuel generalizing bytes s with
  | zero => exact hs
  | succ fuel ih =>
    cases bytes with
    | nil => exact hs
    | cons ab rest => exact ih _ (h _ _ s hs)

theorem SessionLegal.takeWriteRun {s : State} (h : SessionLegal s) (fills : Bool) (area : Area) (run : List (Nat × Byte)) :
    SessionLegal (takeWriteRun fills area run s) := by
  cases area
  case control p => exact (h.captureBytes _).evaluate p
  case request k => exact h.requestRun k _
  case window n =>
    simp only [Machine.takeWriteRun]
    split
    · exact h.fillObservation _ _ _
    · exact h
  all_goals exact h

theorem SessionLegal.takeReadRun {s : State} (h : SessionLegal s) (drains : Bool) (area : Area) (run : List (Nat × Byte)) :
    SessionLegal (takeReadRun drains area run s) := by
  cases area
  case window n =>
    simp only [Machine.takeReadRun]
    split
    · exact h.drainObservation _ _
    · exact h
  all_goals exact h

theorem SessionLegal.whenReleased {s : State} (h : SessionLegal s) {event : State → State}
    (he : ∀ t, SessionLegal t → SessionLegal (event t)) : SessionLegal (whenReleased s event) := by
  unfold Machine.whenReleased
  split
  · exact h
  · exact he _ h.takeDueExpiries

theorem SessionLegal.expiryStep {s : State} (h : SessionLegal s) (due : State → Bool) {event : State → State}
    (he : SessionLegal (event s)) : SessionLegal (expiryStep s due event) := by
  unfold Machine.expiryStep
  split
  · exact h
  · split
    · exact he
    · exact h

theorem SessionLegal.writeTransaction {s : State} (h : SessionLegal s) (w : BusWrite) :
    SessionLegal (writeTransaction s w) :=
  (h.forwardWrite w).whenReleased (fun _ ht => handRuns_keeps (fun _ _ _ hu => hu.takeWriteRun _ _ _) _ _ ht)

theorem SessionLegal.readReleased {s : State} (h : SessionLegal s) (r : ReadResponse) : SessionLegal (readReleased s r) := by
  have snapshot (bytes : List (Nat × Byte)) : SessionLegal (snapshotIfHeader s bytes) := by
    unfold snapshotIfHeader
    split
    · exact h.takeSnapshot
    · exact h
  unfold Machine.readReleased
  split
  · exact h.returnRead r _
  · exact SessionLegal.returnRead (handRuns_keeps (fun _ _ _ hu => hu.takeReadRun _ _ _) _ _ (snapshot _)) r _

theorem SessionLegal.readTransaction {s : State} (h : SessionLegal s) (r : ReadResponse) :
    SessionLegal (readTransaction s r) := by
  unfold Machine.readTransaction
  split
  · exact h.returnRead r _
  · exact h.takeDueExpiries.readReleased r

theorem SessionLegal.releaseReset {s : State} (h : SessionLegal s) (pageBase : BitVec 28) (prescaler : BitVec 16)
    (revision : Byte) : SessionLegal (releaseReset s pageBase prescaler revision) :=
  SessionLegal.takeSnapshot { h with }

/-- Every command keeps the session's bounds. -/
theorem SessionLegal.exec {s t : State} (h : SessionLegal s) (c : Instr) (ht : exec c s = .next t) : SessionLegal t := by
  have directive {event : State → State} (he : ∀ u, SessionLegal u → SessionLegal (event u))
      (hx : Host.Outcome.next (ρ := Refusal) (φ := Fault) (Machine.whenReleased s event) = .next t) : SessionLegal t := by
    cases hx; exact h.whenReleased he
  cases hw : writeOf c with
  | some w =>
    rw [exec_of_writeOf hw] at ht
    cases ht; exact h.writeTransaction w
  | none =>
    cases hr : readOf c with
    | some r =>
      rw [exec_of_readOf hr] at ht
      cases ht; exact h.readTransaction r
    | none =>
      cases c
      case hardwareReset => cases ht; exact sessionLegal_of_reset rfl rfl rfl rfl rfl rfl
      case rstRelease b p v =>
        cases ht
        split
        · exact h.releaseReset b p v
        · exact h
      case tick => exact directive (fun _ hu => hu.tickTime) ht
      case refclkPeriod => exact directive (fun _ hu => hu.refclkTime) ht
      case arm entry => exact directive (fun _ hu => hu.takeArm entry) ht
      case suspend entry => exact directive (fun _ hu => hu.takeSuspend entry) ht
      case resume entry => exact directive (fun _ hu => hu.takeResume entry) ht
      case flush => exact directive (fun _ hu => hu.takeFlush) ht
      case teardown entry => exact directive (fun _ hu => hu.takeTeardown entry) ht
      case restart => exact directive (fun u _ => SessionLegal.takeRestart u) ht
      case seed rate => exact directive (fun _ hu => hu.seedEstimates rate) ht
      case clearTallies => exact directive (fun _ hu => hu.takeEntry 8 0 0) ht
      case ack mask => exact directive (fun _ hu => hu.takeEntry 9 mask 0) ht
      case enable mask => exact directive (fun _ hu => hu.takeEntry 10 mask 0) ht
      case unknownDirective code entry => exact directive (fun _ hu => hu.noteDirective code entry .unknown) ht
      case settleExpiry p => cases ht; exact h.expiryStep _ (h.settleExpires p)
      case stallExpiry n => cases ht; exact h.expiryStep _ (h.stallExpires n)
      case checkExpiry n => cases ht; exact h.expiryStep _ (h.checkExpires n)
      case graceExpiry n => cases ht; exact h.expiryStep _ (h.graceExpires n)
      all_goals simp [writeOf, readOf] at hw hr

/-- Settles O58. The bounds are those of single updates; every command is made of operations that keep them. -/
theorem stepsKeepTheSession : Obligations.StepsKeepTheSession := by
  unfold Obligations.StepsKeepTheSession
  intro s t h ht
  unfold step at ht
  split at ht
  · cases ht; exact h
  · rename_i c rest _
    have waiting : SessionLegal { s with pending := rest } := { h with }
    exact waiting.exec c ht

end Sys2Proof.Machine
end

section
/-! PROOF. Resets, the session directives and the directives that are ignored (O4, O11, O12, O15, O56). -/

namespace Sys2Proof.Machine

/-! ### The reset state and its laws (O56) -/

theorem slot_reset (n : Fin 8) : State.reset.slot n = Slot.empty := slot_of_emptied rfl n

theorem timers_of_stopped {s : State} (h : s.pm = State.reset.pm) (n : Fin 8) : s.timers n = SlotTimers.stopped := by
  simp [State.timers, h, State.reset]

theorem timers_reset (n : Fin 8) : State.reset.timers n = SlotTimers.stopped := timers_of_stopped rfl n

theorem ticket_of_reset {s : State} (h : s.vu = State.reset.vu) (k : Fin 16) :
    s.ticket k = { stamp := 0, verdict := none, shadow := [] } := by
  simp [State.ticket, h, State.reset]

theorem ticket_reset (k : Fin 16) : State.reset.ticket k = { stamp := 0, verdict := none, shadow := [] } :=
  ticket_of_reset rfl k

/-- An empty record with its timers stopped is legal (R35, R54). -/
theorem slotLegal_empty : SlotLegal Slot.empty SlotTimers.stopped := by
  constructor <;> simp [Slot.empty, SlotTimers.stopped, SlotState.live, SlotState.unlanded, SlotState.hasLanded]

theorem buffersCanonical_reset : BuffersCanonical State.reset where
  capture := rfl
  captureSize := rfl
  request k := by rw [ticket_reset]; rfl
  requestSize k := by rw [ticket_reset]; rfl
  snapshot := List.length_replicate

theorem slotTableLegal_reset : SlotTableLegal State.reset where
  slot n := by rw [slot_reset, timers_reset]; exact slotLegal_empty
  segments m _ hm := absurd hm (not_live_of_emptied rfl m)
  windows m _ hm := absurd hm (not_live_of_emptied rfl m)
  queue n := by rw [slot_reset]; simp [State.reset, Slot.empty, SlotState.hasLanded]
  sorted := List.Pairwise.nil

theorem slotsAgree_reset : SlotsAgree State.reset where
  reset _ := ⟨rfl, by simp [State.anyLive, slot_reset, Slot.empty, SlotState.live]⟩
  bounds _ hw := nomatch hw
  inside n hn := absurd hn (not_live_of_emptied rfl n)
  onLadder n hn := absurd hn (not_live_of_emptied rfl n)
  advisedBelow n k hk := by rw [slot_reset] at hk; nomatch hk

/-- Settles O56. No slot is live, nothing is adopted, and every buffer is empty. -/
theorem resetKeepsTheLaws : Obligations.ResetKeepsTheLaws := by
  unfold Obligations.ResetKeepsTheLaws
  exact ⟨buffersCanonical_reset, sessionLegal_of_reset rfl rfl rfl rfl rfl rfl, slotTableLegal_reset, slotsAgree_reset⟩

/-! ### Snapshots and resets (O4) -/

/-- The report does not show the snapshot that stands. -/
theorem reportBytes_snapshot (s : State) (m : List Byte) :
    reportBytes { s with eru := { s.eru with snapshot := m } } = reportBytes s := by
  have fields : reportFields { s with eru := { s.eru with snapshot := m } } = reportFields s := rfl
  rw [reportBytes, fields, reportBytes]

/-- With both estimates 0 the snapshot uses up no free value (R77). -/
theorem takeSnapshot_of_zero {s : State} (h : lowerEstimate s = 0) :
    takeSnapshot s = { s with eru := { s.eru with snapshot := reportBytes s } } := by
  simp [takeSnapshot, h]

/-- With both estimates 0 the snapshot shows the state that holds it. -/
theorem snapshot_takeSnapshot {s : State} (h : lowerEstimate s = 0) :
    (takeSnapshot s).eru.snapshot = reportBytes (takeSnapshot s) := by
  have shown (m : List Byte) (hm : m = reportBytes s) :
      m = reportBytes { s with eru := { s.eru with snapshot := m } } := hm.trans (reportBytes_snapshot s m).symm
  rw [takeSnapshot_of_zero h]
  simpa only using shown (reportBytes s) rfl

/-- What every reset leaves, but for the time base, the page base, the capture shadow, the revision and the snapshot (R2, R36, R60,
R90, R114, R132, R145). -/
structure BlocksReset (t : State) : Prop where
  sc : t.sc = State.reset.sc
  stu : t.stu = State.reset.stu
  pm : t.pm = State.reset.pm
  te : t.te = State.reset.te
  vu : t.vu = State.reset.vu
  ccu : { t.ccu with shadow := [] } = State.reset.ccu
  flags : t.eru.flags = 0x100
  enables : t.eru.enables = 0
  tallies : t.eru.tallies = Tallies.zero

theorem blocksReset_assertReset (s : State) : BlocksReset (assertReset s) := ⟨rfl, rfl, rfl, rfl, rfl, rfl, rfl, rfl, rfl⟩

theorem blocksReset_takeRestart (s : State) : BlocksReset (takeRestart s) := ⟨rfl, rfl, rfl, rfl, rfl, rfl, rfl, rfl, rfl⟩



theorem lowerEstimate_of_reset {t : State} (h : t.te = State.reset.te) : lowerEstimate t = 0 := by
  simp [lowerEstimate, h, State.reset]

/-- S is 0 while the estimates are 0 (R77). -/
theorem safeRate_of_zero {t : State} (h : lowerEstimate t = 0) : safeRate t = 0 := by
  unfold safeRate
  rw [h]
  cases t.ccu.adoptedSetup <;> simp

/-- The release of RST with both estimates 0: the tie-offs and the snapshot change alone (R32). -/
theorem releaseReset_of_zero {s : State} (h : lowerEstimate s = 0) (pageBase : BitVec 28) (prescaler : BitVec 16)
    (revision : Byte) : ∃ m, releaseReset s pageBase prescaler revision = { s with
      pif := { resetAsserted := false, pageBase := pageBase }
      tb := { s.tb with prescaler := prescaler.toNat }
      eru := { s.eru with revision := revision, snapshot := m } } := ⟨_, takeSnapshot_of_zero h⟩

/-- Settles O4. Both resets leave the blocks as `State.reset` has them, and with estimates of 0 the snapshot shows its own state. -/
theorem resetsSetEveryBlock : Obligations.ResetsSetEveryBlock := by
  unfold Obligations.ResetsSetEveryBlock
  intro blocksReset
  have all (t : State) (h : BlocksReset t) : blocksReset t := by
    have content {α : Type} (f : Ccu → α) : f { t.ccu with shadow := [] } = f State.reset.ccu := congrArg f h.ccu
    refine ⟨h.sc, fun n => ⟨slot_of_emptied h.stu n, timers_of_stopped h.pm n⟩, congrArg Stu.queue h.stu, ?_,
      position_of_reset h.ccu, content Ccu.adoptedSetup, content Ccu.adoptedLadder, content Ccu.adoptedWindows,
      content Ccu.counter, content Ccu.rejectionNote, content Ccu.clampNote, content Ccu.directiveNote, h.te,
      safeRate_of_zero (lowerEstimate_of_reset h.te), ticket_of_reset h.vu, congrArg Vu.currentRung h.vu,
      congrArg Vu.dwell h.vu, h.flags, h.enables, ?_, h.tallies⟩
    · simp [State.bufferLevel, h.stu, State.reset]
    · simp [State.evt, h.enables]
  refine ⟨fun s => ?_, fun s hs => ?_, fun pageBase prescaler revision s hr hz => ?_⟩
  · exact ⟨_, rfl, all _ (blocksReset_assertReset s), rfl, rfl, rfl, rfl, rfl⟩
  · refine ⟨takeRestart s, congrArg Host.Outcome.next (whenReleased_of_takesEvents hs _), all _ (blocksReset_takeRestart s),
      rfl, rfl, rfl, rfl, ?_, rfl⟩
    exact snapshot_takeSnapshot (lowerEstimate_of_reset rfl)
  · obtain ⟨m, hm⟩ := releaseReset_of_zero hz pageBase prescaler revision
    exact ⟨_, congrArg Host.Outcome.next (if_pos hr), by rw [hm], snapshot_takeSnapshot hz⟩

/-! ### The session directives (O11, O12, O15) -/

/-- Settles O11. -/
theorem sessionDirectivesMoveTheGovernor : Obligations.SessionDirectivesMoveTheGovernor := by
  unfold Obligations.SessionDirectivesMoveTheGovernor
  intro s entry hs
  have arm : exec (.arm entry) s = .next (takeArm s entry) := congrArg Host.Outcome.next (whenReleased_of_takesEvents hs _)
  have suspend : exec (.suspend entry) s = .next (takeSuspend s entry) :=
    congrArg Host.Outcome.next (whenReleased_of_takesEvents hs _)
  have resume : exec (.resume entry) s = .next (takeResume s entry) :=
    congrArg Host.Outcome.next (whenReleased_of_takesEvents hs _)
  refine ⟨fun u l hg hu hl => ?_, fun hg => ?_, fun hg => ?_, fun hg hr => ?_, fun hg hr => ?_⟩
  · rw [arm]
    simp only [takeArm, hg, armSession, State.setup, State.ladder, hu, hl, Option.getD_some, rungCount, min_assoc]
  · rw [suspend]
    simp only [takeSuspend, hg]
  · rw [suspend]
    simp only [takeSuspend, hg]
  · rw [resume]
    simp only [takeResume, hg, resumedGovernor, hr]
  · rw [resume]
    simp only [takeResume, hg, resumedGovernor, hr]

/-- Settles O12. -/
theorem flushAndTeardownFreeEverySlot : Obligations.FlushAndTeardownFreeEverySlot := by
  unfold Obligations.FlushAndTeardownFreeEverySlot
  intro s entry hs
  have teardown : exec (.teardown entry) s = .next (takeTeardown s entry) :=
    congrArg Host.Outcome.next (whenReleased_of_takesEvents hs _)
  refine ⟨congrArg Host.Outcome.next (whenReleased_of_takesEvents hs _), fun hg => ?_⟩
  rw [teardown, takeTeardown]
  cases hgov : s.sc.governor <;> rw [hgov] at hg
  case dormant => simp [Governor.armed] at hg
  case ready => simp [Governor.armed] at hg
  all_goals rfl

/-- Settles O15. Each clause fixes the governor state, and with it the arm of the directive's case split. -/
theorem ignoredDirectivesAreNoted : Obligations.IgnoredDirectivesAreNoted := by
  unfold Obligations.IgnoredDirectivesAreNoted
  intro s entry code hs noted
  have taken (event : State → State) (t : State) (h : event s = t) :
      (.next (whenReleased s event) : Host.Outcome State Fault Refusal) = .next t := by
    rw [whenReleased_of_takesEvents hs, h]
  have unarmed (hg : s.sc.governor.armed = false) : s.sc.governor = .dormant ∨ s.sc.governor = .ready := by
    cases h : s.sc.governor <;> simp_all [Governor.armed]
  have decides (hg : s.sc.governor.decides = true) : s.sc.governor = .warmup ∨ s.sc.governor = .adapting := by
    cases h : s.sc.governor <;> simp_all [Governor.decides]
  refine ⟨fun _ => taken _ _ rfl, fun hg => taken _ _ ?_, fun hg => taken _ _ ?_, fun hg => taken _ _ ?_,
    fun hg => taken _ _ ?_, fun hg => taken _ _ ?_, fun hg => taken _ _ ?_, fun hg => taken _ _ ?_⟩
  · rw [takeArm, hg]; rfl
  · rw [takeArm]
    cases h : s.sc.governor <;> rw [h] at hg <;> first | rfl | simp [Governor.armed] at hg
  · rw [takeSuspend]
    obtain h | h := unarmed hg <;> rw [h] <;> rfl
  · rw [takeSuspend, hg]; rfl
  · rw [takeResume]
    obtain h | h := unarmed hg <;> rw [h] <;> rfl
  · rw [takeResume]
    obtain h | h := decides hg <;> rw [h] <;> rfl
  · rw [takeTeardown]
    obtain h | h := unarmed hg <;> rw [h] <;> rfl

end Sys2Proof.Machine
end

section
/-! PROOF. The control records: what adoption takes from SETUP (O16), and a whole record of SETUP, LADDER or WINDOWS under a new
stamp (O17, O18, O19). -/

namespace Sys2Proof.Machine

/-! ### Fields as adoption takes them (R140) -/

theorem clampTo_value {low high : Nat} (h : low ≤ high) (v : Nat) :
    (clampTo low high v).value = if v < low then low else if high < v then high else v := by
  simp only [clampTo]
  split
  · omega
  · split <;> omega

theorem raisedTo_value (x : Taken) (least : Nat) :
    (x.raisedTo least).value = if x.value < least then least else x.value := by
  simp only [Taken.raisedTo]
  split <;> omega

/-- A value in its range is taken as stored. -/
theorem clampTo_of_inRange {low high v : Nat} (h : low ≤ v ∧ v ≤ high) : clampTo low high v = ⟨v, false⟩ := by
  simp only [clampTo, Taken.mk.injEq, Bool.or_eq_false_iff, decide_eq_false_iff_not]
  omega

theorem raisedTo_of_le {v least : Nat} (h : least ≤ v) : (Taken.mk v false).raisedTo least = ⟨v, false⟩ := by
  simp only [Taken.raisedTo, Taken.mk.injEq, Bool.or_eq_false_iff, decide_eq_false_iff_not, true_and]
  omega

/-- Fields numbered from `number` on, each with whether adoption altered it. -/
def numbered (number : Nat) : List Taken → List (Nat × Bool)
  | [] => []
  | x :: rest => (number, x.altered) :: numbered (number + 1) rest

theorem alteredFrom_eq (number : Nat) (l : List Taken) :
    alteredFrom number l = ((numbered number l).filter (fun f => f.2)).map (fun f => f.1) := by
  induction l generalizing number with
  | nil => rfl
  | cons x rest ih =>
    simp only [alteredFrom, numbered, List.filter_cons, ih]
    split <;> rfl

/-- The 24 fields of a SETUP record as they are stored (section 10.1.1). -/
def storedSettings (m : ByteStore) : Setup :=
  { mode := readField m 0x01 1, pinnedRung := readField m 0x02 1, startRung := readField m 0x03 1,
    capRung := readField m 0x04 1, shiftFast := readField m 0x05 1, shiftSlow := readField m 0x06 1,
    dwellMin := readField m 0x07 1, warmupLength := readField m 0x08 1, abandonEnable := readField m 0x09 1,
    sigma := readField m 0x0A 2, sigmaCongested := readField m 0x0C 2, rhoIn := readField m 0x0E 2,
    rhoOut := readField m 0x10 2, gapLimit := readField m 0x12 2, stallTime := readField m 0x14 2,
    checkTime := readField m 0x16 2, guard := readField m 0x18 2, graceTime := readField m 0x1A 2,
    seed := readField m 0x1C 4, minSample := readField m 0x20 4, bPanic := readField m 0x24 4, bUp := readField m 0x28 4,
    bTarget := readField m 0x2C 4, bFull := readField m 0x30 4 }

/-- A record whose stored settings are in range is taken as stored, with no field altered (R140). -/
theorem readSetup_of_inRange {m : ByteStore} (h : SettingsInRange (storedSettings m))
    (hf : (storedSettings m).bFull ≤ 120000) :
    settingsValues (readSetup m) = storedSettings m ∧ alteredFrom 1 (settingsList (readSetup m)) = [] := by
  obtain ⟨mode, pinnedRung, startRung, capRung, shiftFast, shiftSlow, dwellMin, warmupLength, abandonEnable, sigma,
    sigmaCongested, rhoIn, rhoOut, gapLimit, stallTime, checkTime, guard, graceTime, seed, minSample, bPanic, bUp, bTarget,
    bFull⟩ := h
  simp only [storedSettings] at *
  have taken : ∀ {low high v : Nat}, low ≤ v → v ≤ high → clampTo low high v = ⟨v, false⟩ :=
    fun h1 h2 => clampTo_of_inRange ⟨h1, h2⟩
  have read : readSetup m = (readSetup m) := rfl
  conv at read => rhs; simp (disch := omega) only [readSetup, taken, raisedTo_of_le]
  rw [read]
  exact ⟨rfl, rfl⟩

/-- Settles O16. -/
theorem adoptedSettingsAreInRange : Obligations.AdoptedSettingsAreInRange := by
  unfold Obligations.AdoptedSettingsAreInRange
  intro m stored taken nearest raised outside changed
  have clamp {low high : Nat} (h : low ≤ high) (v : Nat) : (clampTo low high v).value = nearest low high v :=
    clampTo_value h v
  have raise (x : Taken) (least : Nat) : (x.raisedTo least).value = raised x.value least := raisedTo_value x least
  have range := settings_inRange_readSetup m
  have lifted {low high : Nat} (h : low ≤ high) (v least : Nat) :
      ((clampTo low high v).raisedTo least).value = raised (nearest low high v) least := by rw [raise, clamp h]
  have altered (low high v : Nat) : (clampTo low high v).altered = outside low high v := (Bool.decide_or _ _).symm
  have alteredUp (x : Taken) (least : Nat) : (x.raisedTo least).altered = (x.altered || decide (x.value < least)) := rfl
  refine ⟨range, ?_, ?_, fun h hf => readSetup_of_inRange h hf⟩
  · exact Eq.mpr (SettingsOf.mk.injEq ..) ⟨clamp (by decide) _, clamp (by decide) _, clamp (by decide) _, clamp (by decide) _,
      clamp (by decide) _, lifted (by decide) _ _, clamp (by decide) _, clamp (by decide) _, clamp (by decide) _,
      clamp (by decide) _, clamp range.sigma.1 _, clamp (by decide) _,
      clamp (Nat.add_le_add_right range.rhoIn.2 6) _, clamp (by decide) _, clamp (by decide) _, clamp (by decide) _,
      clamp (by decide) _, lifted (by decide) _ _, clamp (by decide) _, clamp (by decide) _, clamp (by decide) _,
      lifted (by decide) _ _, clamp (by decide) _, lifted (by decide) _ _⟩
  · have fields : numbered 1 (settingsList (readSetup m)) = changed := by
      simp (disch := decide) only [numbered, settingsList, readSetup, alteredUp, altered, clamp, changed, taken,
        settingsValues, stored]
    rw [alteredFrom_eq, fields]

/-! ### SETUP (O17) -/

/-- The stamp that a presented record brings to its position is not 0 (R135). -/
theorem captured_stamp_ne_zero {s : State} {w : BusWrite} {p : Position} (h : s.presents p w = true) :
    shadowStamp (s.captured w) p ≠ 0 := ((presents_iff s p w).1 h).2.2.1

/-- After an adoption all three records are configured when the other two are (R3). -/
theorem adoptedState_configured {s : State} {p : Position} (hb : shadowStamp s p ≠ 0) :
    (adoptedState s p).configured = true ↔ (p = .setup ∨ s.ccu.posSetup.adoptedStamp ≠ 0)
      ∧ (p = .ladder ∨ s.ccu.posLadder.adoptedStamp ≠ 0) ∧ (p = .windows ∨ s.ccu.posWindows.adoptedStamp ≠ 0) := by
  have stamp : ¬ shadowStamp s p = 0#8 := hb
  simp only [configured_iff, adoptedState_position]
  cases p <;> simp [PositionState.adopted, stamp, State.position]

/-- Settles O17. -/
theorem setupRecordIsAdopted : Obligations.SetupRecordIsAdopted := by
  unfold Obligations.SetupRecordIsAdopted
  intro s w hp m u altered ready
  have ready_iff : (adoptedState (s.captured w) .setup).configured = true ↔ ready := by
    rw [adoptedState_configured (captured_stamp_ne_zero hp)]
    simp [ready, State.captured]
  have exec_eq : exec (.setup w) s = .next (adoptRecord (s.captured w) .setup) :=
    congrArg Host.Outcome.next (writeTransaction_presents hp)
  rw [exec_eq, adoptRecord_setup]
  simp only [ready_iff]
  rfl

/-! ### LADDER (O18) -/

theorem readLadder_rungs (m : ByteStore) : (readLadder m).rungs = (List.range (readRungCount m)).map (readRung m) := rfl

/-- A list of rungs in order of number strictly rises when each rate is below the next. -/
theorem rates_pairwise_iff (rate : Nat → Nat) (n : Nat) :
    (List.range n).Pairwise (fun i j => rate i < rate j) ↔ ∀ k, k + 1 < n → rate k < rate (k + 1) := by
  have trans : IsTrans ℕ (fun i j => rate i < rate j) := ⟨fun _ _ _ => lt_trans⟩
  rw [← List.isChain_iff_pairwise, List.isChain_range]
  exact forall_congr' fun k => imp_congr_left (by omega)

/-- The shape test of a LADDER record, rung by rung (R81). -/
theorem ladderShape_iff (m : ByteStore) : ladderShape m = true ↔ 1 ≤ readRungCount m ∧ readRungCount m ≤ 12
    ∧ (∀ k, k < readRungCount m → 64 ≤ readField m (0x104 + 4 * k) 2)
    ∧ ∀ k, k + 1 < readRungCount m → readField m (0x104 + 4 * k) 2 < readField m (0x104 + 4 * (k + 1)) 2 := by
  simp only [ladderShape, Bool.and_eq_true, decide_eq_true_eq, ratesRise_iff (le_refl 64), readLadder_rungs,
    List.pairwise_map, List.forall_mem_map, List.mem_range, and_assoc]
  exact and_congr_right fun _ => and_congr_right fun _ => and_congr_right fun _ => rates_pairwise_iff _ _

/-- A trim byte is read in two's complement (R155). -/
theorem signedByte_readField (m : ByteStore) (a : Nat) : signedByte (readField m a 1) = (readByte m a).toInt := by
  have hb := (readByte m a).isLt
  rw [readField, readField, signedByte, BitVec.toInt_eq_toNat_cond]
  rcases Nat.lt_or_ge (readByte m a).toNat 128 with h | h
  · rw [if_pos (by omega), if_pos (by omega)]; omega
  · rw [if_neg (by omega), if_neg (by omega)]; omega

theorem readLadder_eq (m : ByteStore) : readLadder m = { rungs := (List.range (readRungCount m)).map (fun k =>
    { nominal := readField m (0x104 + 4 * k) 2, trim := (readByte m (0x106 + 4 * k)).toInt }) } := by
  simp only [readLadder, ← signedByte_readField]
  rfl

/-- A whole LADDER or WINDOWS record under a new stamp: rejected for its shape, or while a slot is live, or adopted (R135). -/
theorem exec_recordWrite_judged {s : State} {w : BusWrite} {p : Position} (hp : s.presents p w = true)
    (hu : inUse (s.captured w) p = s.anyLive) :
    (shapePasses (s.captured w) p = false →
      exec (recordWrite p w) s = .next (rejectRecord (s.captured w) p .shape))
    ∧ (shapePasses (s.captured w) p = true → s.anyLive = true →
      exec (recordWrite p w) s = .next (rejectRecord (s.captured w) p .inuse))
    ∧ (shapePasses (s.captured w) p = true → s.anyLive = false →
      exec (recordWrite p w) s = .next (adoptRecord (s.captured w) p)) := by
  rw [exec_recordWrite, writeTransaction_presents hp, hu]
  refine ⟨fun hs => ?_, fun hs hl => ?_, fun hs hl => ?_⟩
  · simp [hs]
  · simp [hs, hl]
  · simp [hs, hl]

/-- Settles O18. -/
theorem ladderRecordIsJudged : Obligations.LadderRecordIsJudged := by
  unfold Obligations.LadderRecordIsJudged
  intro s w hp m rate trim shape rejected
  obtain ⟨misshapen, inuse, adopted⟩ := exec_recordWrite_judged hp rfl
  have shape_iff : shapePasses (s.captured w) .ladder = true ↔ shape := ladderShape_iff m
  refine ⟨fun hs => ?_, fun hs hl => ?_, fun hs hl => ?_⟩
  · exact misshapen (Bool.eq_false_iff.2 (mt shape_iff.1 hs))
  · exact inuse (shape_iff.2 hs) hl
  · have ready_iff : (adoptedState (s.captured w) .ladder).configured = true ↔
        s.ccu.posSetup.adoptedStamp ≠ 0 ∧ s.ccu.posWindows.adoptedStamp ≠ 0 := by
      rw [adoptedState_configured (captured_stamp_ne_zero hp)]
      simp [State.captured]
    refine (adopted (shape_iff.2 hs) hl).trans (congrArg Host.Outcome.next ?_)
    show readinessTest (adoptedState (s.captured w) .ladder) = _
    rw [readinessTest_eq]
    simp only [ready_iff, rate, trim, ← readLadder_eq]
    rfl

/-! ### WINDOWS (O19) -/

theorem boundsShape_iff (pageStart low high : Nat) : boundsShape pageStart low high = true ↔
    low < high ∧ ¬ (low < pageStart + 4096 ∧ pageStart < high) := by
  rw [boundsShape, ← Bool.decide_and, ← decide_not, ← Bool.decide_and, decide_eq_true_eq]

/-- Settles O19. -/
theorem windowsRecordIsJudged : Obligations.WindowsRecordIsJudged := by
  unfold Obligations.WindowsRecordIsJudged
  intro s w hp m low high capacity shape fits rejected
  obtain ⟨misshapen, inuse, adopted⟩ := exec_recordWrite_judged hp rfl
  have shape_iff : shapePasses (s.captured w) .windows = true ↔ shape := boundsShape_iff s.pageStart low high
  refine ⟨fun hs => ?_, fun hs hl => ?_, fun hs hl => ?_⟩
  · exact misshapen (Bool.eq_false_iff.2 (mt shape_iff.1 hs))
  · exact inuse (shape_iff.2 hs) hl
  · have ready_iff : (adoptedState (s.captured w) .windows).configured = true ↔
        s.ccu.posSetup.adoptedStamp ≠ 0 ∧ s.ccu.posLadder.adoptedStamp ≠ 0 := by
      rw [adoptedState_configured (captured_stamp_ne_zero hp)]
      simp [State.captured]
    have note : clampNoteOf .windows (windowsAltered m) =
        { position := .windows, count := if fits then 0 else 1, first := if fits then 0 else 5 } := by
      have altered : (readMaxCapacity m).altered = decide (¬ fits) := by
        simp only [readMaxCapacity, clampTo, ← Bool.decide_or, fits, capacity, not_and_or, Nat.not_le]
      by_cases hf : fits <;> simp [clampNoteOf, windowsAltered, altered, hf]
    refine (adopted (shape_iff.2 hs) hl).trans (congrArg Host.Outcome.next ?_)
    show readinessTest (adoptedState (s.captured w) .windows) = _
    rw [readinessTest_eq]
    simp only [ready_iff, ← note]
    rfl

end Sys2Proof.Machine
end

section
/-! PROOF. A landing of an unread slot (O38). -/

namespace Sys2Proof.Machine

/-- A slot that has not been read has no drain to credit when it lands: its landing ends with the tally (R44, R45). -/
theorem land_of_undrained {s : State} {n : Fin 8} (h : (s.slot n).drainMark = 0) :
    land s n = growTally (takeSample (landedTable s n) (sampleOf (s.slot n) s.now)) .landed 1 := by
  rw [land_eq, landRead, slot_before_credit]
  simp [landedTable, Slot.landedRecord, h]

/-- The records of the slot table that a landing leaves (R44, steps 1 and 2). -/
theorem landedTable_slot (s : State) (n m : Fin 8) :
    (landedTable s n).slot m = if m = n then (s.slot n).landedRecord else s.slot m := by
  simp [landedTable, State.slot_setSlot]

theorem landedTable_timers (s : State) (n m : Fin 8) :
    (landedTable s n).timers m = if m = n then SlotTimers.stopped else s.timers m := by
  simp [landedTable, State.timers_setTimers]

/-- A passed sample as one change of the state (R65, R66, R74, R13). -/
theorem takePassedSample_eq (s : State) (x : Sample) :
    let fast := updatedEstimate s.te.fast s.setup.shiftFast x.rate
    let slow := updatedEstimate s.te.slow s.setup.shiftSlow x.rate
    let after := congestionAfter s.te.congestion fast slow s.setup.rhoIn s.setup.rhoOut
    let count := saturatingAdd 255 s.sc.warmupCount 1
    takePassedSample s x = { s with
      te := { ring := pushSample s.te.ring x, fast := fast, slow := slow, congestion := after, valid := true }
      sc := { s.sc with
        warmupCount := count
        governor := if s.sc.governor = .warmup ∧ s.setup.warmupLength ≤ count then .adapting else s.sc.governor }
      eru := { s.eru with
        flags := if after = s.te.congestion then s.eru.flags else s.eru.flags ||| flagBit .congest } } := by
  simp only [takePassedSample, reevaluateCongestion_eq]
  rfl

/-- The congestion test as one condition for each state (R74). -/
theorem congestionAfter_eq (c : Congestion) (fast slow rhoIn rhoOut : Nat) : congestionAfter c fast slow rhoIn rhoOut =
    if (if c = .clear then fast * 256 < slow * rhoIn else fast * 256 < slow * rhoOut) then .congested else .clear := by
  cases c with
  | clear => rfl
  | congested =>
    simp only [congestionAfter, reduceCtorEq, if_false, ← Nat.not_le]
    split <;> simp_all

/-- Settles O38. An undrained slot's landing is its table, its sample and its tally; the sample is gated or passed. -/
theorem landingTakesItsSteps : Obligations.LandingTakesItsSteps := by
  unfold Obligations.LandingTakesItsSteps
  intro s n len hlen hdrain x t rate sample fast slow congested after count landedTally
  have ht : t = growTally (takeSample (landedTable s n) sample) .landed 1 := by
    have formed : sampleOf (s.slot n) s.now = sample := by simp [sampleOf, sample, hlen, rateTop, State.now, rate, x]
    rw [← formed]
    exact land_of_undrained hdrain
  have hslot (m : Fin 8) : t.slot m = if m = n then (s.slot n).landedRecord else s.slot m := by
    rw [ht, slot_before_credit, landedTable_slot]
  have hpm : t.pm = (landedTable s n).pm := by rw [ht]; exact (land_before_credit s n sample).2
  have htimers (m : Fin 8) : t.timers m = if m = n then SlotTimers.stopped else s.timers m := by
    rw [← landedTable_timers, State.timers, State.timers, hpm]
  have hqueue : t.stu.queue = queueWith s n := by
    rw [ht, (land_before_credit s n sample).1]; rfl
  refine ⟨by rw [hslot, if_pos rfl]; rfl, fun m hm => ⟨by rw [hslot, if_neg hm], by rw [htimers, if_neg hm]⟩,
    by rw [htimers, if_pos rfl]; rfl, ?_, fun hgate => ?_, fun hpass => ?_⟩
  · rw [hqueue]
    exact insertBySegment_split _ _ n s.stu.queue
  · have gated : takeSample (landedTable s n) sample = growTally (landedTable s n) .gated 1 := if_pos hgate
    rw [ht, gated]
    rfl
  · have passed : takeSample (landedTable s n) sample = takePassedSample (landedTable s n) sample :=
      if_neg (Nat.not_lt.2 hpass)
    have judged : congestionAfter s.te.congestion fast slow s.setup.rhoIn s.setup.rhoOut = after := congestionAfter_eq _ _ _ _ _
    rw [ht, passed, takePassedSample_eq]
    simp only [← judged]
    rfl

end Sys2Proof.Machine
end

section
/-! PROOF. No event reads what the ports last carried or the queue of waiting commands: an event on a state with other ports and
another queue leaves what it leaves on the state itself, with those ports and that queue (R17; notes/assumptions/10.md, 11.md). -/

namespace Sys2Proof.Machine

/-- The state with other ports and another queue of waiting commands. -/
def State.relabelled (s : State) (p : Ports) (q : List Instr) : State := { s with ports := p, pending := q }

section
variable {s : State} {p : Ports} {q : List Instr}

theorem relabelled_ite {c : Prop} [Decidable c] {a b a' b' : State} (ha : a' = a.relabelled p q) (hb : b' = b.relabelled p q) :
    (if c then a' else b') = (if c then a else b).relabelled p q := by
  split
  · exact ha
  · exact hb

/-! ### TE and STU -/

theorem reevaluateCongestion_relabelled {t : State} (h : t = s.relabelled p q) :
    reevaluateCongestion t = (reevaluateCongestion s).relabelled p q := by
  rw [h, reevaluateCongestion_eq, reevaluateCongestion_eq]; rfl

theorem takeSample_relabelled (x : Sample) : takeSample (s.relabelled p q) x = (takeSample s x).relabelled p q := by
  refine relabelled_ite rfl ?_
  rw [takePassedSample_eq, takePassedSample_eq]; rfl

theorem consume_relabelled {t : State} (h : t = s.relabelled p q) (n : Fin 8) :
    consume t n = (consume s n).relabelled p q := by
  rw [h]
  exact relabelled_ite rfl rfl

theorem landRead_relabelled (n : Fin 8) : landRead (s.relabelled p q) n = (landRead s n).relabelled p q :=
  relabelled_ite rfl (relabelled_ite (consume_relabelled (by rfl) n) rfl)

theorem land_relabelled (n : Fin 8) : land (s.relabelled p q) n = (land s n).relabelled p q := by
  have table : landedTable (s.relabelled p q) n = (landedTable s n).relabelled p q := rfl
  have tally (t : State) : growTally (t.relabelled p q) .landed 1 = (growTally t .landed 1).relabelled p q := rfl
  rw [land_eq, table, takeSample_relabelled, tally, landRead_relabelled]
  rfl

theorem landIfFull_relabelled {t : State} (h : t = s.relabelled p q) (n : Fin 8) :
    landIfFull t n = (landIfFull s n).relabelled p q := by
  rw [h]
  exact relabelled_ite (land_relabelled n) rfl

theorem fillObservation_relabelled (n : Fin 8) (low fillEnd : Nat) :
    fillObservation (s.relabelled p q) n low fillEnd = (fillObservation s n low fillEnd).relabelled p q := by
  rw [fillObservation_eq, fillObservation_eq]
  exact relabelled_ite (landIfFull_relabelled (by rfl) n) rfl

theorem drainObservation_relabelled (n : Fin 8) (drainEnd : Nat) :
    drainObservation (s.relabelled p q) n drainEnd = (drainObservation s n drainEnd).relabelled p q := by
  have unlanded : drainUnlanded (s.relabelled p q) n drainEnd = (drainUnlanded s n drainEnd).relabelled p q :=
    relabelled_ite rfl rfl
  have landed : drainLanded (s.relabelled p q) n drainEnd = (drainLanded s n drainEnd).relabelled p q :=
    relabelled_ite rfl (relabelled_ite (consume_relabelled (by rfl) n) rfl)
  exact relabelled_ite unlanded (relabelled_ite landed rfl)

theorem declareLength_relabelled (n : Fin 8) (v : Nat) :
    declareLength (s.relabelled p q) n v = (declareLength s n v).relabelled p q := by
  refine landIfFull_relabelled ?_ n
  exact relabelled_ite rfl rfl

/-! ### VU -/

/-- A decision with other ports and another queue in the state it leaves. -/
def relabelledDecision (d : Verdict × State) (p : Ports) (q : List Instr) : Verdict × State := (d.1, d.2.relabelled p q)

theorem relabelledDecision_ite {c : Prop} [Decidable c] {a b a' b' : Verdict × State} (ha : a' = relabelledDecision a p q)
    (hb : b' = relabelledDecision b p q) : (if c then a' else b') = relabelledDecision (if c then a else b) p q := by
  split
  · exact ha
  · exact hb

theorem noteRung_relabelled (rung : Nat) : noteRung (s.relabelled p q) rung = (noteRung s rung).relabelled p q :=
  relabelled_ite rfl rfl

theorem capFitGo_relabelled (r : Request) (rung : Nat) :
    capFitGo (s.relabelled p q) r rung = relabelledDecision (capFitGo s r rung) p q := by
  have free : (s.relabelled p q).lowestFree = s.lowestFree := rfl
  have fit : capacityFit (s.relabelled p q).ladder r.duration r.capacity (capRung (s.relabelled p q) rung)
      = capacityFit s.ladder r.duration r.capacity (capRung s rung) := rfl
  unfold capFitGo
  rw [free, fit]
  cases s.lowestFree with
  | none => rfl
  | some n =>
    cases capacityFit s.ladder r.duration r.capacity (capRung s rung) with
    | none => rfl
    | some ke => exact Prod.ext rfl (noteRung_relabelled (s := allocate s n r ke.1 ke.2) ke.1)

theorem decideFetch_relabelled (r : Request) :
    decideFetch (s.relabelled p q) r = relabelledDecision (decideFetch s r) p q := by
  have governor : (s.relabelled p q).sc.governor = s.sc.governor := rfl
  have holding : (s.relabelled p q).liveHolding r.segment = s.liveHolding r.segment := rfl
  have overlapping : (s.relabelled p q).overlapping r = s.overlapping r := rfl
  unfold decideFetch
  rw [governor, holding, overlapping]
  cases s.sc.governor
  case dormant => rfl
  case ready => rfl
  case suspended => rfl
  all_goals
    refine relabelledDecision_ite rfl ?_
    cases s.liveHolding r.segment with
    | some n => rfl
    | none =>
      cases s.overlapping r with
      | some n => rfl
      | none =>
        exact relabelledDecision_ite rfl (relabelledDecision_ite rfl (capFitGo_relabelled r (rungStep s)))

theorem decideLength_relabelled (r : Request) :
    decideLength (s.relabelled p q) r = relabelledDecision (decideLength s r) p q := by
  have holding : (s.relabelled p q).liveHolding r.segment = s.liveHolding r.segment := rfl
  unfold decideLength
  rw [holding]
  refine relabelledDecision_ite rfl ?_
  cases s.liveHolding r.segment with
  | none => rfl
  | some n =>
    exact relabelledDecision_ite rfl (relabelledDecision_ite rfl (Prod.ext rfl (declareLength_relabelled n r.length)))

theorem decideDrop_relabelled (r : Request) :
    decideDrop (s.relabelled p q) r = relabelledDecision (decideDrop s r) p q := by
  have holding : (s.relabelled p q).liveHolding r.segment = s.liveHolding r.segment := rfl
  unfold decideDrop
  rw [holding]
  cases s.liveHolding r.segment <;> rfl

theorem decideRefetch_relabelled (r : Request) (old : Slot) :
    decideRefetch (s.relabelled p q) r old = relabelledDecision (decideRefetch s r old) p q := by
  have overlapping : (s.relabelled p q).overlapping r = s.overlapping r := rfl
  unfold decideRefetch
  rw [overlapping]
  refine relabelledDecision_ite rfl ?_
  cases s.overlapping r with
  | some n => rfl
  | none => exact capFitGo_relabelled r _

theorem decideReplace_relabelled (r : Request) :
    decideReplace (s.relabelled p q) r = relabelledDecision (decideReplace s r) p q := by
  have governor : (s.relabelled p q).sc.governor = s.sc.governor := rfl
  have holding : (s.relabelled p q).unlandedHolding r.segment = s.unlandedHolding r.segment := rfl
  unfold decideReplace
  rw [governor, holding]
  cases s.sc.governor
  case dormant => rfl
  case ready => rfl
  case suspended => rfl
  all_goals
    cases s.unlandedHolding r.segment with
    | none => rfl
    | some n => exact relabelledDecision_ite rfl (decideRefetch_relabelled (s := freeSlot s n) r (s.slot n))

theorem decideRequest_relabelled (r : Request) :
    decideRequest (s.relabelled p q) r = relabelledDecision (decideRequest s r) p q :=
  relabelledDecision_ite (decideFetch_relabelled r) (relabelledDecision_ite (decideLength_relabelled r)
    (relabelledDecision_ite (decideDrop_relabelled r) (relabelledDecision_ite (decideReplace_relabelled r) rfl)))

theorem closeTicket_relabelled (k : Fin 16) : closeTicket (s.relabelled p q) k = (closeTicket s k).relabelled p q := by
  refine relabelled_ite rfl (relabelled_ite rfl ?_)
  have decided := decideRequest_relabelled (s := s) (p := p) (q := q) (readRequest (s.ticket k).shadow)
  exact congrArg (fun d : Verdict × State => latch d.2 k d.1 (readRequest (s.ticket k).shadow).stamp) decided

theorem requestRun_relabelled (k : Fin 16) (bytes : List (Nat × Byte)) :
    requestRun (s.relabelled p q) k bytes = (requestRun s k bytes).relabelled p q :=
  relabelled_ite (closeTicket_relabelled (s := shadowRequest s k bytes) k) rfl

/-! ### SC and CCU -/

theorem takeSnapshot_relabelled {t : State} (h : t = s.relabelled p q) :
    takeSnapshot t = (takeSnapshot s).relabelled p q := by
  subst h
  have fields : reportFields (s.relabelled p q) = reportFields s := rfl
  have bytes : reportBytes (s.relabelled p q) = reportBytes s := by rw [reportBytes, fields, reportBytes]
  simp only [takeSnapshot, bytes]
  rfl

theorem takeArm_relabelled (entry : Nat) : takeArm (s.relabelled p q) entry = (takeArm s entry).relabelled p q := by
  have governor : (s.relabelled p q).sc.governor = s.sc.governor := rfl
  unfold takeArm
  rw [governor]
  cases s.sc.governor <;> rfl

theorem takeSuspend_relabelled (entry : Nat) :
    takeSuspend (s.relabelled p q) entry = (takeSuspend s entry).relabelled p q := by
  have governor : (s.relabelled p q).sc.governor = s.sc.governor := rfl
  unfold takeSuspend
  rw [governor]
  cases s.sc.governor <;> rfl

theorem takeResume_relabelled (entry : Nat) :
    takeResume (s.relabelled p q) entry = (takeResume s entry).relabelled p q := by
  have governor : (s.relabelled p q).sc.governor = s.sc.governor := rfl
  unfold takeResume
  rw [governor]
  cases s.sc.governor <;> rfl

theorem takeTeardown_relabelled (entry : Nat) :
    takeTeardown (s.relabelled p q) entry = (takeTeardown s entry).relabelled p q := by
  have governor : (s.relabelled p q).sc.governor = s.sc.governor := rfl
  unfold takeTeardown
  rw [governor]
  cases s.sc.governor <;> rfl

theorem seedEstimates_relabelled (rate : BitVec 32) :
    seedEstimates (s.relabelled p q) rate = (seedEstimates s rate).relabelled p q := by
  have adopted : (s.relabelled p q).ccu.adoptedSetup = s.ccu.adoptedSetup := rfl
  unfold seedEstimates
  rw [adopted]
  cases s.ccu.adoptedSetup with
  | some _ => exact reevaluateCongestion_relabelled (by rfl)
  | none => exact relabelled_ite rfl rfl

theorem takeEntry_relabelled (code : Byte) (argument : BitVec 32) (entry : Nat) :
    takeEntry (s.relabelled p q) code argument entry = (takeEntry s code argument entry).relabelled p q :=
  relabelled_ite (takeArm_relabelled entry) (relabelled_ite (takeSuspend_relabelled entry)
    (relabelled_ite (takeResume_relabelled entry) (relabelled_ite rfl (relabelled_ite (takeTeardown_relabelled entry)
      (relabelled_ite (seedEstimates_relabelled argument) (relabelled_ite rfl (relabelled_ite rfl (relabelled_ite rfl rfl))))))))

theorem takeRestart_relabelled : takeRestart (s.relabelled p q) = (takeRestart s).relabelled p q :=
  takeSnapshot_relabelled (by rfl)

theorem takeEntries_relabelled (entry : Nat) (l : List (Byte × BitVec 32)) :
    takeEntries (s.relabelled p q) entry l = (takeEntries s entry l).relabelled p q := by
  induction l generalizing s entry with
  | nil => rfl
  | cons x rest ih =>
    obtain ⟨code, argument⟩ := x
    refine relabelled_ite rfl (relabelled_ite takeRestart_relabelled ?_)
    rw [takeEntry_relabelled]
    exact ih _

theorem setPosition_relabelled (r : Position) (x : PositionState) :
    (s.relabelled p q).setPosition r x = (s.setPosition r x).relabelled p q := by cases r <;> rfl

theorem position_relabelled (r : Position) : (s.relabelled p q).position r = s.position r := by cases r <;> rfl

theorem rejectRecord_relabelled (r : Position) (reason : RejectReason) :
    rejectRecord (s.relabelled p q) r reason = (rejectRecord s r reason).relabelled p q := by cases r <;> rfl

theorem readinessTest_relabelled : readinessTest (s.relabelled p q) = (readinessTest s).relabelled p q :=
  relabelled_ite rfl rfl

theorem warmupTest_relabelled : warmupTest (s.relabelled p q) = (warmupTest s).relabelled p q := relabelled_ite rfl rfl

theorem adoptRecord_relabelled (r : Position) :
    adoptRecord (s.relabelled p q) r = (adoptRecord s r).relabelled p q := by
  have adopted : adoptedState (s.relabelled p q) r = (adoptedState s r).relabelled p q := by cases r <;> rfl
  show afterAdoption (adoptedState (s.relabelled p q) r) r = (afterAdoption (adoptedState s r) r).relabelled p q
  rw [adopted]
  cases r with
  | setup => exact (congrArg warmupTest readinessTest_relabelled).trans warmupTest_relabelled
  | ladder => exact readinessTest_relabelled
  | windows => exact readinessTest_relabelled
  | directive => exact takeEntries_relabelled 0 _

theorem evaluate_relabelled (r : Position) : evaluate (s.relabelled p q) r = (evaluate s r).relabelled p q := by
  have shape : shapePasses (s.relabelled p q) r = shapePasses s r := by cases r <;> rfl
  have use : inUse (s.relabelled p q) r = inUse s r := by cases r <;> rfl
  have stamp : shadowStamp (s.relabelled p q) r = shadowStamp s r := rfl
  have now : (s.relabelled p q).now = s.now := rfl
  have shadow : (s.relabelled p q).ccu.shadow = s.ccu.shadow := rfl
  simp only [evaluate, shape, use, stamp, now, shadow, position_relabelled, setPosition_relabelled, rejectRecord_relabelled,
    adoptRecord_relabelled]
  exact relabelled_ite rfl (relabelled_ite rfl (relabelled_ite rfl (relabelled_ite rfl (relabelled_ite rfl rfl))))

/-! ### Runs -/

theorem takeWriteRun_relabelled (fills : Bool) (area : Area) (run : List (Nat × Byte)) :
    takeWriteRun fills area run (s.relabelled p q) = (takeWriteRun fills area run s).relabelled p q := by
  cases area with
  | control r => exact evaluate_relabelled (s := captureBytes s (runFrom s.pageStart run)) r
  | request k => exact requestRun_relabelled k _
  | window n => exact relabelled_ite (fillObservation_relabelled n _ _) rfl
  | verdict | report | plain | outside => rfl

theorem takeReadRun_relabelled (drains : Bool) (area : Area) (run : List (Nat × Byte)) :
    takeReadRun drains area run (s.relabelled p q) = (takeReadRun drains area run s).relabelled p q := by
  cases area with
  | window n => exact relabelled_ite (drainObservation_relabelled n _) rfl
  | control | request | verdict | report | plain | outside => rfl

/-- A whole observation reads neither ports nor queue when no run of it does (R19). -/
theorem handRuns_relabelled {take : Area → List (Nat × Byte) → State → State}
    (h : ∀ area run (s : State), take area run (s.relabelled p q) = (take area run s).relabelled p q) (fuel : Nat)
    (bytes : List (Nat × Byte)) :
    handRuns take fuel bytes (s.relabelled p q) = (handRuns take fuel bytes s).relabelled p q := by
  induction fuel generalizing bytes s with
  | zero => rfl
  | succ fuel ih =>
    cases bytes with
    | nil => rfl
    | cons ab rest =>
      have area (a : Nat) : (s.relabelled p q).areaAt a = s.areaAt a := rfl
      simp only [handRuns, area, h, ih]

theorem observeWrite_relabelled (w : BusWrite) :
    observeWrite (s.relabelled p q) w = (observeWrite s w).relabelled p q :=
  handRuns_relabelled (fun area run _ => takeWriteRun_relabelled _ area run) _ _

end

end Sys2Proof.Machine
end

section
/-! PROOF. A directive list is its directives taken one by one (O20): no directive starts a timer, so that none finds an expiry due
before it, and none reads the queue that the others wait in. -/

namespace Sys2Proof.Machine

/-! ### Events that start no timer (R34) -/

/-- `t` stands at the part time of `s` with no timer that `s` does not have. -/
structure StartsNoTimer (s t : State) : Prop where
  tb : t.tb = s.tb
  settle : ∀ p : Position, (t.position p).settle = (s.position p).settle ∨ (t.position p).settle = none
  timers : ∀ n : Fin 8, t.timers n = s.timers n ∨ t.timers n = SlotTimers.stopped

theorem StartsNoTimer.of_same {s t : State} (tb : t.tb = s.tb) (settle : ∀ p : Position, t.position p = s.position p)
    (pm : t.pm = s.pm) : StartsNoTimer s t :=
  ⟨tb, fun p => .inl (by rw [settle]), fun n => .inl (by rw [State.timers, pm, State.timers])⟩

theorem StartsNoTimer.of_stopped {s t : State} (tb : t.tb = s.tb) (settle : ∀ p : Position, t.position p = s.position p)
    (pm : t.pm = State.reset.pm) : StartsNoTimer s t :=
  ⟨tb, fun p => .inl (by rw [settle]), fun n => .inr (timers_of_stopped pm n)⟩

theorem StartsNoTimer.trans {s t u : State} (h : StartsNoTimer s t) (k : StartsNoTimer t u) : StartsNoTimer s u := by
  refine ⟨k.tb.trans h.tb, fun p => ?_, fun n => ?_⟩
  · obtain hp | hp := k.settle p
    · rw [hp]; exact h.settle p
    · exact .inr hp
  · obtain hn | hn := k.timers n
    · rw [hn]; exact h.timers n
    · exact .inr hn

/-- With no timer started at the same part time, none is due that was not. -/
theorem StartsNoTimer.noneDue {s t : State} (h : StartsNoTimer s t) (hs : s.noneDue = true) : t.noneDue = true := by
  rw [State.noneDue_iff] at hs ⊢
  obtain ⟨settled, slots⟩ := hs
  refine ⟨fun p => ?_, fun n => ?_⟩
  · obtain hp | hp := h.settle p
    · simpa only [State.settleDue, hp, State.now, h.tb] using settled p
    · simp [State.settleDue, hp, settleTimerDue]
  · obtain hn | hn := h.timers n
    · simpa only [State.stallDue, State.checkDue, State.graceDue, hn, State.now, h.tb] using slots n
    · simp [State.stallDue, State.checkDue, State.graceDue, hn, SlotTimers.stopped, timerDue]

theorem StartsNoTimer.takesEvents {s t : State} (h : StartsNoTimer s t) (pif : t.pif = s.pif) (hs : s.takesEvents = true) :
    t.takesEvents = true := by
  rw [State.takesEvents_iff] at hs ⊢
  exact ⟨by rw [pif]; exact hs.1, h.noneDue hs.2⟩

/-! ### Directives start no timer -/

theorem startsNoTimer_noteDirective (s : State) (code : Byte) (entry : Nat) (reason : DirectiveReason) :
    StartsNoTimer s (noteDirective s code entry reason) := .of_same rfl (fun p => by cases p <;> rfl) rfl

/-- A change of governor state, estimates, flags, tallies or session values starts no timer. -/
theorem startsNoTimer_session (s : State) (sc : Sc) (te : Te) (vu : Vu) (eru : Eru) :
    StartsNoTimer s { s with sc := sc, te := te, vu := vu, eru := eru } := .of_same rfl (fun p => by cases p <;> rfl) rfl

/-- Nor does one in which every slot is freed, which stops the slots' timers (R54). -/
theorem startsNoTimer_freed (s : State) (sc : Sc) (vu : Vu) :
    StartsNoTimer s { freeAllSlots s with sc := sc, vu := vu } := .of_stopped rfl (fun p => by cases p <;> rfl) rfl

theorem startsNoTimer_seedEstimates (s : State) (rate : BitVec 32) : StartsNoTimer s (seedEstimates s rate) := by
  unfold seedEstimates clearCongestion
  dsimp only
  split
  · rw [reevaluateCongestion_eq]
    exact startsNoTimer_session s _ _ _ _
  · split <;> exact startsNoTimer_session s _ _ _ _

/-- An adoption stops the settle timer of its position (R138). -/
theorem startsNoTimer_adoptedState (s : State) (p : Position) : StartsNoTimer s (adoptedState s p) := by
  refine ⟨by cases p <;> rfl, fun q => ?_, fun n => .inl (by cases p <;> rfl)⟩
  rw [adoptedState_position]
  split
  · exact .inr rfl
  · exact .inl rfl

/-- No directive but RESTART starts a timer, and RESTART ends its list. -/
theorem startsNoTimer_takeEntry (s : State) (code : Byte) (argument : BitVec 32) (entry : Nat) :
    StartsNoTimer s (takeEntry s code argument entry) := by
  have noted := startsNoTimer_noteDirective s
  have session := startsNoTimer_session s
  unfold takeEntry
  split
  · unfold takeArm
    split
    · exact session _ _ _ _
    all_goals exact noted _ _ _
  split
  · unfold takeSuspend
    split
    · exact session _ _ _ _
    · exact session _ _ _ _
    all_goals exact noted _ _ _
  split
  · unfold takeResume
    split
    · exact session _ _ _ _
    all_goals exact noted _ _ _
  split
  · exact startsNoTimer_freed s _ _
  split
  · unfold takeTeardown
    split
    case h_4 => exact noted _ _ _
    case h_5 => exact noted _ _ _
    all_goals exact startsNoTimer_freed s _ _
  split
  · exact startsNoTimer_seedEstimates s argument
  split
  · exact session _ _ _ _
  split
  · exact session _ _ _ _
  split
  · exact session _ _ _ _
  · exact noted _ _ _

/-! ### One directive, and the list -/

/-- The command of a directive entry does what the entry does in a list (R142). -/
theorem exec_directiveCommand {s : State} (hs : s.takesEvents = true) (code : Byte) (argument : BitVec 32) (entry : Fin 6) :
    exec (directiveCommand code argument entry) s =
      .next (if code = 6 then takeRestart s else takeEntry s code argument entry.val) := by
  have taken (event : State → State) :
      (.next (whenReleased s event) : Host.Outcome State Fault Refusal) = .next (event s) :=
    congrArg Host.Outcome.next (whenReleased_of_takesEvents hs event)
  unfold directiveCommand takeEntry
  by_cases h1 : code = 1
  · subst h1; exact taken _
  by_cases h2 : code = 2
  · subst h2; exact taken _
  by_cases h3 : code = 3
  · subst h3; exact taken _
  by_cases h4 : code = 4
  · subst h4; exact taken _
  by_cases h5 : code = 5
  · subst h5; exact taken _
  by_cases h6 : code = 6
  · subst h6; exact taken _
  by_cases h7 : code = 7
  · subst h7; exact taken _
  by_cases h8 : code = 8
  · subst h8; exact taken _
  by_cases h9 : code = 9
  · subst h9; exact taken _
  by_cases h10 : code = 10
  · subst h10; exact taken _
  simp only [h1, h2, h3, h4, h5, h6, h7, h8, h9, h10, if_false]
  exact taken _

/-- A step on a queue whose front is a directive's command. -/
theorem step_directiveCommand {s : State} (hs : s.takesEvents = true) (p : Ports) (code : Byte) (argument : BitVec 32)
    (entry : Fin 6) (rest : List Instr) :
    step (s.relabelled p (directiveCommand code argument entry :: rest)) =
      .next ((if code = 6 then takeRestart s else takeEntry s code argument entry.val).relabelled p rest) := by
  have waiting : (s.relabelled p rest).takesEvents = true := hs
  have taken := exec_directiveCommand waiting code argument entry
  rw [takeRestart_relabelled, takeEntry_relabelled] at taken
  exact taken.trans (congrArg Host.Outcome.next (relabelled_ite rfl rfl))

theorem run_succ_of_step {s t : State} (h : step s = .next t) (k : Nat) :
    Host.Core.run Sys2Proof.core (k + 1) s = Host.Core.run Sys2Proof.core k t := by
  have stepped : Sys2Proof.core.step s = .next t := h
  simp only [Host.Core.run, stepped]

/-- The commands of a list, waiting in front of a queue and taken one by one, leave what the list leaves (R142). -/
theorem run_listCommands (l : List (Byte × BitVec 32)) {i : Nat} (hi : i + l.length ≤ 6) {s : State} (hs : s.takesEvents = true)
    (p : Ports) (q : List Instr) :
    Host.Core.run Sys2Proof.core (listCommands i l).length (s.relabelled p (listCommands i l ++ q)) =
      .next ((takeEntries s i l).relabelled p q) := by
  induction l generalizing i s with
  | nil => rfl
  | cons x rest ih =>
    obtain ⟨code, argument⟩ := x
    rw [List.length_cons] at hi
    by_cases h0 : code = 0
    · simp only [listCommands, takeEntries, if_pos h0]
      rfl
    have entry : (Fin.ofNat 6 i).val = i := Nat.mod_eq_of_lt (by omega)
    have first (after : List Instr) := step_directiveCommand hs p code argument (Fin.ofNat 6 i) after
    by_cases h6 : code = 6
    · subst h6
      simp only [if_true] at first
      simp only [listCommands, takeEntries, if_neg h0, if_true]
      exact run_succ_of_step (first q) 0
    · simp only [h6, if_false, entry] at first
      have next := ih (i := i + 1) (by omega) ((startsNoTimer_takeEntry s code argument i).takesEvents
        (kept_takeEntry s code argument i).pif hs)
      simp only [listCommands, takeEntries, if_neg h0, if_neg h6]
      exact (run_succ_of_step (first (listCommands (i + 1) rest ++ q)) _).trans next

/-- Settles O20. -/
theorem directiveListIsItsEntries : Obligations.DirectiveListIsItsEntries := by
  unfold Obligations.DirectiveListIsItsEntries
  intro s w hp cmds
  have taken : s.takesEvents = true := ((State.writeFallsIn_iff _ _ _).1 ((presents_iff _ _ _).1 hp).1).1
  have exec_eq : exec (.directive w) s = .next (takeEntries (adoptedState (s.captured w) .directive) 0
    (readEntries (s.shadowAfter w))) := congrArg Host.Outcome.next (writeTransaction_presents hp)
  have ready : (adoptedState (s.captured w) .directive).takesEvents = true :=
    (startsNoTimer_adoptedState (s.captured w) .directive).takesEvents rfl taken
  have run := run_listCommands (readEntries (s.shadowAfter w)) (i := 0) (by simp [readEntries]) ready
    { s.ports with write := some w } s.pending
  rw [← takeEntries_relabelled] at run
  exact exec_eq.trans run.symm

end Sys2Proof.Machine
end

section
/-! PROOF. A transaction is split at the edge of a unit (O47). -/

namespace Sys2Proof.Machine

/-! ### What a fill does to the windows (R24) -/

/-- Of all slots only slot `n` may differ in `t`, and it is freed there or has the window that it had. -/
structure OnlySlot (s t : State) (n : Fin 8) : Prop where
  pif : t.pif = s.pif
  others : ∀ m, m ≠ n → t.slot m = s.slot m
  window : (t.slot n).state.live = true →
    (s.slot n).state.live = true ∧ (t.slot n).base = (s.slot n).base ∧ (t.slot n).capacity = (s.slot n).capacity

theorem OnlySlot.trans {s t u : State} {n : Fin 8} (h : OnlySlot s t n) (k : OnlySlot t u n) : OnlySlot s u n where
  pif := k.pif.trans h.pif
  others m hm := (k.others m hm).trans (h.others m hm)
  window hu := by
    obtain ⟨ht, hb, hc⟩ := k.window hu
    obtain ⟨hs, hb', hc'⟩ := h.window ht
    exact ⟨hs, hb.trans hb', hc.trans hc'⟩

/-- An operation that leaves every slot record as it was. -/
theorem OnlySlot.of_slots {s t : State} (n : Fin 8) (pif : t.pif = s.pif) (slots : ∀ m, t.slot m = s.slot m) :
    OnlySlot s t n := ⟨pif, fun m _ => slots m, fun h => by rw [slots] at h ⊢; exact ⟨h, rfl, rfl⟩⟩

theorem OnlySlot.refl (s : State) (n : Fin 8) : OnlySlot s s n := .of_slots n rfl (fun _ => rfl)

theorem onlySlot_setSlot {s : State} {n : Fin 8} {x : Slot} (hn : (s.slot n).state.live = true)
    (base : x.base = (s.slot n).base) (capacity : x.capacity = (s.slot n).capacity) : OnlySlot s (s.setSlot n x) n :=
  ⟨rfl, fun m hm => State.slot_setSlot_other s n m x hm, fun _ => by rw [State.slot_setSlot_same]; exact ⟨hn, base, capacity⟩⟩

theorem onlySlot_consume (s : State) (n : Fin 8) : OnlySlot s (consume s n) n := by
  have slots (m : Fin 8) : (consume s n).slot m = (freeSlot s n).slot m :=
    congrArg (fun t : Stu => t.slots[m]) (consume_stu s n)
  refine ⟨(kept_consume s n).pif, fun m hm => (slots m).trans (freeSlot_slot_other s hm), fun h => ?_⟩
  rw [slots, freeSlot_slot_same] at h
  simp [Slot.empty, SlotState.live] at h

theorem onlySlot_landRead {s : State} {n : Fin 8} (hn : (s.slot n).state.live = true) : OnlySlot s (landRead s n) n := by
  have draining : OnlySlot s ((growTally s (.dwellTime (s.slot n).rung) ((s.slot n).played (s.slot n).drainMark)).setSlot n
      { s.slot n with state := .draining }) n :=
    (onlySlot_setSlot (x := { s.slot n with state := .draining }) hn rfl rfl).trans (.of_slots n rfl (fun _ => rfl))
  unfold landRead
  dsimp only
  split
  · exact .refl s n
  · split
    · exact draining.trans (onlySlot_consume _ n)
    · exact draining

theorem onlySlot_land {s : State} {n : Fin 8} (hn : (s.slot n).state.live = true) : OnlySlot s (land s n) n := by
  have table : OnlySlot s (landedTable s n) n :=
    (onlySlot_setSlot (x := (s.slot n).landedRecord) hn rfl rfl).trans (.of_slots n rfl (fun _ => rfl))
  rw [land_eq]
  have sampled : OnlySlot (landedTable s n) (growTally (takeSample (landedTable s n) (sampleOf (s.slot n) s.now)) .landed 1) n :=
    .of_slots n (kept_takeSample _ _).pif (fun m => slot_before_credit s n m _)
  refine (table.trans sampled).trans (onlySlot_landRead ?_)
  rw [slot_before_credit, landedTable_slot, if_pos rfl]
  rfl

/-- A fill observation leaves every other slot, and the window of its own unless it frees it (R38 to R45). -/
theorem onlySlot_fillObservation (s : State) (n : Fin 8) (low fillEnd : Nat) :
    OnlySlot s (fillObservation s n low fillEnd) n := by
  rw [fillObservation_eq]
  split
  · rename_i hc
    rw [Bool.and_eq_true] at hc
    have hn := SlotState.live_of_unlanded hc.1
    have counted : OnlySlot s (countedFill s n fillEnd) n :=
      (onlySlot_setSlot (x := (s.slot n).filled fillEnd s.now s.setup.gapLimit) hn rfl rfl).trans (.of_slots n rfl (fun _ => rfl))
    unfold landIfFull
    split
    · exact counted.trans (onlySlot_land (by simpa [countedFill] using live_filled hn fillEnd s.now s.setup.gapLimit))
    · exact counted
  · exact .refl s n

/-- A byte falls in a slot's window when it is off the page and that slot is the lowest live one to cover it (R20, R24). -/
theorem areaAt_eq_window {s : State} {a : Nat} {n : Fin 8} : s.areaAt a = .window n ↔ s.inPage a = false
    ∧ ((s.slot n).state.live = true ∧ (s.slot n).covers a = true)
    ∧ ∀ k, k < n → ¬ ((s.slot k).state.live = true ∧ (s.slot k).covers a = true) := by
  have found : s.windowAt a = some n ↔ ((s.slot n).state.live = true ∧ (s.slot n).covers a = true)
      ∧ ∀ k, k < n → ¬ ((s.slot k).state.live = true ∧ (s.slot k).covers a = true) := by
    rw [State.windowAt, find_allSlots_eq_some]
    simp only [Bool.and_eq_true, ← Bool.not_eq_true]
  rw [← found]
  constructor
  · intro h
    have off := (window_of_areaAt h).1
    simp only [State.areaAt, off, Bool.false_eq_true, if_false] at h
    cases hw : s.windowAt a with
    | none => simp [hw] at h
    | some k =>
      simp only [hw, Area.window.injEq] at h
      exact ⟨off, by rw [h]⟩
  · rintro ⟨off, hw⟩
    simp [State.areaAt, off, hw]

/-- A byte in another slot's window stays in it (R24). -/
theorem OnlySlot.areaAt_window {s t : State} {m n : Fin 8} (h : OnlySlot s t m) (hmn : m ≠ n) {a : Nat}
    (ha : s.areaAt a = .window n) : t.areaAt a = .window n := by
  rw [areaAt_eq_window] at ha ⊢
  obtain ⟨off, own, lowest⟩ := ha
  refine ⟨by rw [← off, State.inPage, State.inPage, h.pif], by rw [h.others n hmn.symm]; exact own, fun k hk => ?_⟩
  by_cases hkm : k = m
  · rintro ⟨live, covers⟩
    subst hkm
    obtain ⟨was, hb, hc⟩ := h.window live
    exact lowest k hk ⟨was, by rw [← covers, Slot.covers, Slot.covers, hb, hc]⟩
  · rw [h.others k hkm]
    exact lowest k hk

/-- Bytes that all fall in another slot's window still do after a fill. -/
theorem OnlySlot.allFallIn_window {s t : State} {m n : Fin 8} (h : OnlySlot s t m) (hmn : m ≠ n) {bytes : List (Nat × Byte)}
    (hb : s.allFallIn bytes (.window n) = true) : t.allFallIn bytes (.window n) = true := by
  simp only [State.allFallIn, Bool.and_eq_true, List.all_eq_true, decide_eq_true_eq] at hb ⊢
  exact ⟨hb.1, fun ab hab => h.areaAt_window hmn (hb.2 ab hab)⟩

/-- The first of bytes that all fall in one area falls in it. -/
theorem areaAt_head {s : State} {bytes : List (Nat × Byte)} {area : Area} (h : s.allFallIn bytes area = true) :
    ∀ ab ∈ bytes.head?, s.areaAt ab.1 = area := by
  simp only [State.allFallIn, Bool.and_eq_true, List.all_eq_true, decide_eq_true_eq] at h
  exact fun ab hab => h.2 ab (List.mem_of_mem_head? hab)

/-- A fill over the edge of two windows is two fill observations (R26). -/
theorem observeWrite_over_edge {s : State} {w : BusWrite} {m n : Fin 8} {lower upper : List (Nat × Byte)}
    (fills : s.fillMatches w.tag = true) (bytes : strobedBytes w = lower ++ upper) (hmn : m ≠ n)
    (hl : s.allFallIn lower (.window m) = true) (hu : s.allFallIn upper (.window n) = true) :
    observeWrite s w =
      fillObservation (fillObservation s m (runLow lower - (s.slot m).base) (runEnd lower - (s.slot m).base)) n
        (runLow upper - (s.slot n).base) (runEnd upper - (s.slot n).base) := by
  have edge : ∀ ab ∈ upper.head?, s.areaAt ab.1 ≠ .window m := fun ab hab hm =>
    hmn (Area.window.inj (hm.symm.trans (areaAt_head hu ab hab)))
  have first := onlySlot_fillObservation s m (runLow lower - (s.slot m).base) (runEnd lower - (s.slot m).base)
  have lower_run : takeWriteRun true (.window m) lower s =
    fillObservation s m (runLow lower - (s.slot m).base) (runEnd lower - (s.slot m).base) := rfl
  have upper_run (t : State) : takeWriteRun true (.window n) upper t =
    fillObservation t n (runLow upper - (t.slot n).base) (runEnd upper - (t.slot n).base) := rfl
  rw [observeWrite, fills, bytes, handRuns_append hl edge, lower_run, handRuns_of_allFallIn (first.allFallIn_window hmn hu),
    upper_run, first.others n hmn.symm]

/-! ### Writes (R19) -/

/-- A write whose lower part falls in one area and whose next byte does not: that part by itself, then the rest (R4, R19). -/
theorem observeWrite_split {s : State} {w w₁ w₂ : BusWrite} {area : Area} (h₁ : w₁.tag = w.tag) (h₂ : w₂.tag = w.tag)
    (bytes : strobedBytes w = strobedBytes w₁ ++ strobedBytes w₂) (hl : s.allFallIn (strobedBytes w₁) area = true)
    (edge : ∀ ab ∈ (strobedBytes w₂).head?, s.areaAt ab.1 ≠ area)
    (tags : (observeWrite s w₁).fillMatches w.tag = s.fillMatches w.tag) :
    observeWrite s w = observeWrite (observeWrite s w₁) w₂ := by
  have lower : observeWrite s w₁ = takeWriteRun (s.fillMatches w.tag) area (strobedBytes w₁) s := by
    rw [observeWrite, h₁, handRuns_of_allFallIn hl]
  have rest : observeWrite (observeWrite s w₁) w₂ =
      handRuns (takeWriteRun (s.fillMatches w.tag)) (strobedBytes w₂).length (strobedBytes w₂) (observeWrite s w₁) := by
    rw [← tags, ← h₂]; rfl
  rw [rest, observeWrite, bytes, handRuns_append hl edge, lower]

/-- Forwarding a write is a change of the ports alone (R17). -/
theorem forwardWrite_eq_relabelled (s : State) (w : BusWrite) :
    forwardWrite s w = s.relabelled { s.ports with write := some w } s.pending := rfl

/-- A write taken with nothing before it: what it hands on is taken by the state itself, whatever the ports show (R17, R18). -/
theorem writeTransaction_eq_relabelled {s : State} (h : s.takesEvents = true) (w : BusWrite) :
    writeTransaction s w = (observeWrite s w).relabelled { s.ports with write := some w } s.pending := by
  rw [writeTransaction_of_takesEvents h, forwardWrite_eq_relabelled, observeWrite_relabelled]

/-! ### Reads (R26) -/

theorem addressed_append (a : Nat) (x y : List Byte) : addressed a (x ++ y) = addressed a x ++ addressed (a + x.length) y := by
  induction x generalizing a with
  | nil => rfl
  | cons b rest ih => simp [addressed, ih, Nat.add_assoc, Nat.add_comm 1]

theorem mem_addressed {a : Nat} {data : List Byte} {x : Nat × Byte} (h : x ∈ addressed a data) :
    ∃ i, i < data.length ∧ x.1 = a + i := by
  obtain ⟨i, hi, rfl⟩ := List.getElem_of_mem h
  exact ⟨i, by simpa [length_addressed] using hi, by rw [getElem_addressed]⟩

/-- A read off the governor page takes no snapshot (R29). -/
theorem snapshotIfHeader_of_off_page {s : State} {bytes : List (Nat × Byte)} (h : ∀ ab ∈ bytes, s.inPage ab.1 = false) :
    snapshotIfHeader s bytes = s := by
  have none : bytes.any (fun ab => s.inHeaderLine ab.1) = false := by
    rw [List.any_eq_false]
    exact fun ab hab => by simp [State.inHeaderLine, h ab hab]
  rw [snapshotIfHeader, none]
  rfl

/-- A read off the governor page is returned with the DRAM controller's data (R31). -/
theorem substitutedData_of_off_page {s : State} {r : ReadResponse}
    (h : ∀ ab ∈ addressed r.addr.toNat r.data, s.inPage ab.1 = false) : substitutedData s r = r.data := by
  refine List.ext_getElem (length_substitutedData s r) (fun i h₁ h₂ => ?_)
  have hi : i < (addressed r.addr.toNat r.data).length := by simpa [length_addressed] using h₂
  have off := h _ (List.getElem_mem hi)
  rw [getElem_addressed] at off
  simp only [substitutedData, List.getElem_map, getElem_addressed, substitutedByte_of_not_inPage off]

theorem consume_ccu (s : State) (n : Fin 8) : (consume s n).ccu = s.ccu := by
  rw [consume_eq]; split <;> rfl

/-- A slot's consumption starts no timer: its own are stopped (R48, R54). -/
theorem startsNoTimer_consume (s : State) (n : Fin 8) : StartsNoTimer s (consume s n) := by
  refine ⟨(kept_consume s n).tb, fun p => .inl (by cases p <;> simp only [State.position, consume_ccu]), fun m => ?_⟩
  have timers : (consume s n).timers m = (freeSlot s n).timers m :=
    congrArg (fun t : Pm => t.timers[m]) (consume_pm s n)
  rw [timers, freeSlot, State.timers_setTimers]
  split
  · exact .inr rfl
  · exact .inl rfl

/-- A drain observation starts no timer and leaves CCU alone (R46, R47). -/
theorem drainObservation_keeps (s : State) (n : Fin 8) (drainEnd : Nat) :
    StartsNoTimer s (drainObservation s n drainEnd) ∧ (drainObservation s n drainEnd).ccu = s.ccu := by
  have same {t : State} (tb : t.tb = s.tb) (ccu : t.ccu = s.ccu) (pm : t.pm = s.pm) : StartsNoTimer s t ∧ t.ccu = s.ccu :=
    ⟨.of_same tb (fun p => by cases p <;> simp only [State.position, ccu]) pm, ccu⟩
  have consumed {t : State} (h : StartsNoTimer s t ∧ t.ccu = s.ccu) :
      StartsNoTimer s (consume t n) ∧ (consume t n).ccu = s.ccu :=
    ⟨h.1.trans (startsNoTimer_consume t n), (consume_ccu t n).trans h.2⟩
  unfold drainObservation
  split
  · unfold drainUnlanded
    dsimp only
    split <;> exact same rfl rfl rfl
  · split
    · unfold drainLanded
      dsimp only
      split
      · exact same rfl rfl rfl
      · split
        · exact consumed (same rfl rfl rfl)
        · exact same rfl rfl rfl
    · exact same rfl rfl rfl

/-- Every byte of a read lies off the governor page. -/
def offPage (s : State) (r : ReadResponse) : Prop := ∀ ab ∈ addressed r.addr.toNat r.data, s.inPage ab.1 = false

/-- Off the page a read response takes no snapshot: it is its drain runs alone (R25, R29). -/
theorem observeRead_of_offPage {s : State} {r : ReadResponse} (h : offPage s r) : observeRead s r =
    handRuns (takeReadRun (s.drainMatches r.tag)) (addressed r.addr.toNat r.data).length (addressed r.addr.toNat r.data) s := by
  unfold observeRead
  dsimp only
  rw [snapshotIfHeader_of_off_page h]

theorem observeRead_relabelled {s : State} {p : Ports} {q : List Instr} {r : ReadResponse} (h : offPage s r) :
    observeRead (s.relabelled p q) r = (observeRead s r).relabelled p q := by
  rw [observeRead_of_offPage h, observeRead_of_offPage (s := s.relabelled p q) h]
  exact handRuns_relabelled (fun area run _ => takeReadRun_relabelled _ area run) _ _

/-- A read response with status OK off the page, taken with nothing before it (R25, R31). -/
theorem readTransaction_of_offPage {s : State} {r : ReadResponse} (hs : s.takesEvents = true) (ok : r.status = .ok)
    (whole : r.spansReset = false) (h : offPage s r) : readTransaction s r = returnRead (observeRead s r) r r.data := by
  have off : offPage (observeRead s r) r := fun ab hab => by
    rw [← h ab hab, State.inPage, State.inPage, (kept_observeRead s r).pif]
  rw [readTransaction_of_takesEvents hs, readReleased, if_neg (by simp [ok, whole])]
  dsimp only
  rw [substitutedData_of_off_page off]

/-- Bytes that fall in a window lie off the page (R20). -/
theorem offPage_of_window {s : State} {r : ReadResponse} {n : Fin 8}
    (h : s.allFallIn (addressed r.addr.toNat r.data) (.window n) = true) : offPage s r := by
  simp only [State.allFallIn, Bool.and_eq_true, List.all_eq_true, decide_eq_true_eq] at h
  exact fun ab hab => (window_of_areaAt (h.2 ab hab)).1

/-- The read of a window's bytes alone: the runs of the read are the one drain observation, if its tag matched (R25). -/
theorem observeRead_of_window {s : State} {r : ReadResponse} {n : Fin 8}
    (h : s.allFallIn (addressed r.addr.toNat r.data) (.window n) = true) :
    observeRead s r = takeReadRun (s.drainMatches r.tag) (.window n) (addressed r.addr.toNat r.data) s := by
  rw [observeRead_of_offPage (offPage_of_window h), handRuns_of_allFallIn h]

theorem observeRead_window_keeps {s : State} {r : ReadResponse} {n : Fin 8}
    (h : s.allFallIn (addressed r.addr.toNat r.data) (.window n) = true) :
    StartsNoTimer s (observeRead s r) ∧ (observeRead s r).ccu = s.ccu := by
  rw [observeRead_of_window h]
  simp only [takeReadRun]
  split
  · exact drainObservation_keeps s n _
  · exact ⟨.of_same rfl (fun _ => rfl) rfl, rfl⟩

/-- A read whose lower part falls in a window and whose next byte does not: that part by itself, then the rest (R26). -/
theorem observeRead_split {s : State} {r r₁ r₂ : ReadResponse} {n : Fin 8} (h₁ : r₁.tag = r.tag) (h₂ : r₂.tag = r.tag)
    (bytes : addressed r.addr.toNat r.data = addressed r₁.addr.toNat r₁.data ++ addressed r₂.addr.toNat r₂.data)
    (hl : s.allFallIn (addressed r₁.addr.toNat r₁.data) (.window n) = true)
    (edge : ∀ ab ∈ (addressed r₂.addr.toNat r₂.data).head?, s.areaAt ab.1 ≠ .window n) (off : offPage s r₂) :
    observeRead s r = observeRead (observeRead s r₁) r₂ := by
  have off_all : offPage s r := fun ab hab => by
    rw [bytes, List.mem_append] at hab
    exact hab.elim (offPage_of_window hl ab) (off ab)
  have off_rest : offPage (observeRead s r₁) r₂ := fun ab hab => by
    rw [← off ab hab, State.inPage, State.inPage, (kept_observeRead s r₁).pif]
  have tags : (observeRead s r₁).drainMatches r₂.tag = s.drainMatches r.tag := by
    rw [State.drainMatches, State.drainMatches, (observeRead_window_keeps hl).2, h₂]
  rw [observeRead_of_offPage off_all, observeRead_of_offPage off_rest, tags, bytes, handRuns_append hl edge,
    observeRead_of_window hl, h₁]

/-- A returned read is a change of the ports alone (R17). -/
theorem returnRead_eq_relabelled (s : State) (r : ReadResponse) (data : List Byte) : returnRead s r data =
    s.relabelled { s.ports with read := some { addr := r.addr, tag := r.tag, data := data, status := r.status } } s.pending := rfl

/-- Of two reads returned after each other the read port shows the second (R17). -/
theorem returnRead_last {s : State} {p p' : Ports} {q : List Instr} (hw : s.ports.write = p.write) (hq : s.pending = q)
    (r r₂ : ReadResponse) (data data₂ : List Byte) : returnRead s r data = { returnRead (s.relabelled p' q) r₂ data₂ with
      ports := { p with read := some { addr := r.addr, tag := r.tag, data := data, status := r.status } } } := by
  simp only [returnRead, State.relabelled, hw, ← hq]

/-- A read over the edge of a window is two reads, but for what the read port shows (R26). -/
theorem readTransaction_split {s : State} {r r₁ r₂ : ReadResponse} {n : Fin 8} (h₁ : r₁.tag = r.tag) (h₂ : r₂.tag = r.tag)
    (bytes : addressed r.addr.toNat r.data = addressed r₁.addr.toNat r₁.data ++ addressed r₂.addr.toNat r₂.data)
    (ok : r.status = .ok) (ok₂ : r₂.status = .ok) (whole : r.spansReset = false) (whole₂ : r₂.spansReset = false)
    (hl : s.readFallsIn r₁ (.window n) = true)
    (edge : ∀ ab ∈ (addressed r₂.addr.toNat r₂.data).head?, s.areaAt ab.1 ≠ .window n) (off : offPage s r₂) :
    readTransaction s r = { readTransaction (readTransaction s r₁) r₂ with
      ports := { s.ports with read := some { addr := r.addr, tag := r.tag, data := r.data, status := .ok } } } := by
  obtain ⟨hs, ok₁, whole₁, hl⟩ := (State.readFallsIn_iff _ _ _).1 hl
  have off_all : offPage s r := fun ab hab => by
    rw [bytes, List.mem_append] at hab
    exact hab.elim (offPage_of_window hl ab) (off ab)
  have kept := kept_observeRead s r₁
  have off_rest : offPage (observeRead s r₁) r₂ := fun ab hab => by
    rw [← off ab hab, State.inPage, State.inPage, kept.pif]
  have taken : (observeRead s r₁).takesEvents = true := (observeRead_window_keeps hl).1.takesEvents kept.pif hs
  have kept₂ := kept_observeRead (observeRead s r₁) r₂
  rw [readTransaction_of_offPage hs ok whole off_all, readTransaction_of_offPage hs ok₁ whole₁ (offPage_of_window hl),
    readTransaction_of_offPage (s := returnRead (observeRead s r₁) r₁ r₁.data) taken ok₂ whole₂ off_rest,
    returnRead_eq_relabelled (observeRead s r₁), observeRead_relabelled off_rest, observeRead_split h₁ h₂ bytes hl edge off,
    ← ok]
  exact returnRead_last (kept.trans kept₂).write kept₂.pending r r₂ r.data r₂.data

/-- Settles O47. -/
theorem burstIsSplitAtTheWindowEdge : Obligations.BurstIsSplitAtTheWindowEdge := by
  unfold Obligations.BurstIsSplitAtTheWindowEdge
  refine ⟨fun s w m n lower upper hs fills bytes hmn hl hu => ?_,
    fun s t c c₁ c₂ w w₁ w₂ area hc hc₁ hc₂ h₁ h₂ bytes hl edge ht taken tags => ?_,
    fun s t c c₁ c₂ r r₁ r₂ n hc hc₁ hc₂ h₁ h₂ data addr addr₂ ok ok₂ whole whole₂ hl edge off ht => ?_⟩
  · have edge := observeWrite_over_edge (s := forwardWrite s w) fills bytes hmn hl hu
    exact congrArg Host.Outcome.next ((writeTransaction_of_takesEvents hs w).trans edge)
  · obtain ⟨hs, hl⟩ := (State.writeFallsIn_iff _ _ _).1 hl
    rw [exec_of_writeOf hc₁, writeTransaction_eq_relabelled hs] at ht
    cases ht
    refine ⟨_, exec_of_writeOf hc₂ _, ?_⟩
    rw [exec_of_writeOf hc, writeTransaction_eq_relabelled hs, writeTransaction_eq_relabelled taken,
      observeWrite_split h₁ h₂ bytes hl edge tags, observeWrite_relabelled]
    rfl
  · have bytes : addressed r.addr.toNat r.data =
        addressed r₁.addr.toNat r₁.data ++ addressed r₂.addr.toNat r₂.data := by
      rw [data, addressed_append, addr, addr₂]
    have off₂ : offPage s r₂ := fun ab hab => by
      obtain ⟨i, hi, ha⟩ := mem_addressed hab
      rw [ha]; exact off i hi
    have edge₂ : ∀ ab ∈ (addressed r₂.addr.toNat r₂.data).head?, s.areaAt ab.1 ≠ .window n := by
      cases hd : r₂.data with
      | nil => simp [addressed]
      | cons b rest => simpa [addressed] using edge (by simp [hd])
    rw [exec_of_readOf hc₁] at ht
    cases ht
    exact ⟨_, exec_of_readOf hc₂ _, (exec_of_readOf hc s).trans
      (congrArg Host.Outcome.next (readTransaction_split h₁ h₂ bytes ok ok₂ whole whole₂ hl edge₂ off₂))⟩

end Sys2Proof.Machine
end

section
/-! PROOF. The report shows the state (O43): its field table is laid out with no two fields on one byte, so that every field can be
read back from the bytes at its offset, and every byte of no field is 0. -/

namespace Sys2Proof.Machine

/-! ### Field tables (R156) -/

/-- Two fields share no byte. -/
def Field.apart (f g : Field) : Prop := f.offset + f.width ≤ g.offset ∨ g.offset + g.width ≤ f.offset

/-- No field of the list covers the byte at an offset. -/
def uncovered (l : List Field) (a : Nat) : Prop := ∀ f ∈ l, a < f.offset ∨ f.offset + f.width ≤ a

/-- Fields inside `low..high − 1`, no two of them on one byte. -/
structure Table (low high : Nat) (l : List Field) : Prop where
  inside : ∀ f ∈ l, low ≤ f.offset ∧ f.offset + f.width ≤ high
  apart : l.Pairwise Field.apart

/-- Fields in ascending offset from `low` on, each beginning at or after the end of the one before, the last ending by `high`. -/
def rising (low high : Nat) : List Field → Prop
  | [] => low ≤ high
  | f :: rest => low ≤ f.offset ∧ rising (f.offset + f.width) high rest

theorem rising_inside {low high : Nat} {l : List Field} (h : rising low high l) :
    low ≤ high ∧ ∀ f ∈ l, low ≤ f.offset ∧ f.offset + f.width ≤ high := by
  induction l generalizing low with
  | nil => exact ⟨h, by simp⟩
  | cons f rest ih =>
    obtain ⟨hf, hrest⟩ := h
    obtain ⟨hend, inside⟩ := ih hrest
    refine ⟨by omega, fun g hg => ?_⟩
    rcases List.mem_cons.1 hg with rfl | hg
    · exact ⟨hf, hend⟩
    · have := inside g hg; omega

/-- Fields in ascending offset form a table. -/
theorem table_of_rising {low high : Nat} {l : List Field} (h : rising low high l) : Table low high l := by
  refine ⟨(rising_inside h).2, ?_⟩
  induction l generalizing low with
  | nil => exact .nil
  | cons f rest ih => exact List.pairwise_cons.2 ⟨fun g hg => .inl ((rising_inside h.2).2 g hg).1, ih h.2⟩

theorem Table.append {low mid high : Nat} {l₁ l₂ : List Field} (h₁ : Table low mid l₁) (h₂ : Table mid high l₂)
    (hl : low ≤ mid) (hh : mid ≤ high) : Table low high (l₁ ++ l₂) := by
  refine ⟨fun f hf => ?_, List.pairwise_append.2 ⟨h₁.apart, h₂.apart, fun f hf g hg => .inl ?_⟩⟩
  · rcases List.mem_append.1 hf with hf | hf
    · have := h₁.inside f hf; omega
    · have := h₂.inside f hf; omega
  · exact (h₁.inside f hf).2.trans (h₂.inside g hg).1

theorem Table.widen {low high high' : Nat} {l : List Field} (h : Table low high l) (hh : high ≤ high') : Table low high' l :=
  ⟨fun f hf => ⟨(h.inside f hf).1, (h.inside f hf).2.trans hh⟩, h.apart⟩

theorem Table.uncovered {low high : Nat} {l : List Field} (h : Table low high l) {a : Nat} (ha : a < low ∨ high ≤ a) :
    uncovered l a := fun f hf => by have := h.inside f hf; omega

theorem uncovered_nil (a : Nat) : uncovered [] a := fun _ hf => nomatch hf

theorem uncovered_cons {f : Field} {rest : List Field} {a : Nat} :
    uncovered (f :: rest) a ↔ (a < f.offset ∨ f.offset + f.width ≤ a) ∧ uncovered rest a := List.forall_mem_cons

theorem uncovered_append {l₁ l₂ : List Field} {a : Nat} : uncovered (l₁ ++ l₂) a ↔ uncovered l₁ a ∧ uncovered l₂ a := by
  simp only [uncovered, List.mem_append, or_imp, forall_and]

/-- A byte that no field covers is 0 (R156). -/
theorem fieldsByte_of_uncovered {l : List Field} {a : Nat} (h : uncovered l a) : fieldsByte l a = 0 := by
  induction l with
  | nil => rfl
  | cons f rest ih =>
    have hf := h f List.mem_cons_self
    rw [fieldsByte, if_neg (by omega)]
    exact ih (fun g hg => h g (List.mem_cons_of_mem f hg))

/-- A byte of a table's field is the field's (R156). -/
theorem fieldsByte_of_mem {l : List Field} (h : l.Pairwise Field.apart) {f : Field} (hf : f ∈ l) {i : Nat} (hi : i < f.width) :
    fieldsByte l (f.offset + i) = byteOf f.value i := by
  induction l with
  | nil => simp at hf
  | cons g rest ih =>
    rw [List.pairwise_cons] at h
    rcases List.mem_cons.1 hf with rfl | hf
    · rw [fieldsByte, if_pos (by omega), Nat.add_sub_cancel_left]
    · have := h.1 f hf
      rw [fieldsByte, if_neg (by unfold Field.apart at this; omega)]
      exact ih h.2 hf

/-- The bytes of a little-endian field give back its value, modulo its width (R156). -/
theorem sum_byteOf (v width : Nat) : ((List.range width).map (fun i => (byteOf v i).toNat * 256 ^ i)).sum = v % 256 ^ width := by
  induction width with
  | zero => simp [Nat.mod_one]
  | succ w ih =>
    rw [List.range_succ, List.map_append, List.sum_append, ih, Nat.mod_pow_succ]
    simp [byteOf, Nat.mul_comm]

/-! ### The report's tables (section 10.2.2) -/

theorem table_header (s : State) : Table 0x400 0x440 (headerFields s) := by
  refine table_of_rising ?_
  simp [headerFields, rising]

theorem table_positions (s : State) : Table 0x444 0x450 (allPositions.flatMap (positionFields s)) := by
  constructor
  · simp [allPositions, positionFields, positionValue]
  · simp [allPositions, positionFields, positionValue, Field.apart]

theorem table_notes (s : State) : Table 0x450 0x45C (noteFields s) := by
  refine table_of_rising ?_
  unfold noteFields
  cases s.ccu.rejectionNote <;> cases s.ccu.clampNote <;> cases s.ccu.directiveNote <;> simp [rising]

theorem rising_queueFields (offset : Nat) (l : List (Fin 8)) : rising offset (offset + l.length) (queueFields offset l) := by
  induction l generalizing offset with
  | nil => exact le_refl _
  | cons n rest ih =>
    refine ⟨le_refl _, ?_⟩
    have := ih (offset + 1)
    rwa [List.length_cons, Nat.add_comm rest.length, ← Nat.add_assoc]

/-- The first line of the status part: governor, remembered state, counter and EVT (section 10.2.2). -/
def sessionFields (s : State) : List Field :=
  [⟨0x440, 1, governorValue s.sc.governor⟩, ⟨0x441, 1, rememberedValue s.sc.remembered⟩, ⟨0x442, 1, s.ccu.counter⟩,
    ⟨0x443, 1, markValue s.evt⟩]

/-- Flags, enables and the queue's length (section 10.2.2). -/
def flagFields (s : State) : List Field :=
  [⟨0x45C, 2, s.eru.flags.toNat⟩, ⟨0x45E, 2, s.eru.enables.toNat⟩, ⟨0x460, 1, s.stu.queue.length⟩]

theorem statusFields_eq (s : State) : statusFields s = sessionFields s ++ allPositions.flatMap (positionFields s)
    ++ noteFields s ++ flagFields s ++ queueFields 0x461 s.stu.queue := rfl

theorem table_session (s : State) : Table 0x440 0x444 (sessionFields s) := table_of_rising (by simp [sessionFields, rising])

theorem table_flags (s : State) : Table 0x45C 0x461 (flagFields s) := table_of_rising (by simp [flagFields, rising])

theorem table_queue (s : State) : Table 0x461 (0x461 + s.stu.queue.length) (queueFields 0x461 s.stu.queue) :=
  table_of_rising (rising_queueFields 0x461 _)

theorem table_status {s : State} (h : s.stu.queue.length ≤ 8) : Table 0x440 0x469 (statusFields s) :=
  ((((table_session s).append (table_positions s) (by decide) (by decide)).append (table_notes s) (by decide)
    (by decide)).append (table_flags s) (by decide) (by decide)).append ((table_queue s).widen (by omega)) (by decide) (by decide)

theorem table_estimator (s : State) : Table 0x4C0 0x4DC (estimatorFields s) := by
  refine table_of_rising ?_
  simp [estimatorFields, rising]

theorem table_slot (s : State) (n : Fin 8) : Table (0x500 + 32 * n.val) (0x520 + 32 * n.val) (slotFields s n) := by
  refine table_of_rising ?_
  simp only [slotFields, rising]
  omega

theorem table_slots (s : State) : Table 0x500 0x600 (allSlots.flatMap (slotFields s)) := by
  have slot := table_slot s
  have last : Table 0x600 0x600 ([] : List Field) := table_of_rising (le_refl _)
  exact (slot 0).append ((slot 1).append ((slot 2).append ((slot 3).append ((slot 4).append ((slot 5).append ((slot 6).append
    ((slot 7).append last (by decide) (by decide)) (by decide) (by decide)) (by decide) (by decide)) (by decide) (by decide))
    (by decide) (by decide)) (by decide) (by decide)) (by decide) (by decide)) (by decide) (by decide)

/-- The fields of entry `i` of the sample ring (section 10.2.2). -/
def sampleEntry (i : Nat) (x : Sample) : List Field :=
  [⟨0x600 + 16 * i, 4, x.segment⟩, ⟨0x604 + 16 * i, 4, x.bytes⟩, ⟨0x608 + 16 * i, 4, x.activeMs⟩,
    ⟨0x60C + 16 * i, 4, x.landing.toNat⟩, ⟨0x680 + 4 * i, 3, x.rate⟩, ⟨0x683 + 4 * i, 1, x.rung⟩]

theorem sampleFields_cons (i : Nat) (x : Sample) (rest : List Sample) :
    sampleFields i (x :: rest) = sampleEntry i x ++ sampleFields (i + 1) rest := rfl

/-- A field stands in the line or in the rate word of entry `i` of the sample ring. -/
def Field.ofSample (i : Nat) (f : Field) : Prop :=
  (0x600 + 16 * i ≤ f.offset ∧ f.offset + f.width ≤ 0x610 + 16 * i)
    ∨ (0x680 + 4 * i ≤ f.offset ∧ f.offset + f.width ≤ 0x684 + 4 * i)

theorem ofSample_of_mem_entry {i : Nat} {x : Sample} {f : Field} (h : f ∈ sampleEntry i x) : f.ofSample i := by
  simp only [sampleEntry, List.mem_cons, List.not_mem_nil, or_false] at h
  unfold Field.ofSample
  rcases h with rfl | rfl | rfl | rfl | rfl | rfl <;> dsimp only <;> omega

theorem ofSample_of_mem {i : Nat} {l : List Sample} {f : Field} (h : f ∈ sampleFields i l) :
    ∃ j, i ≤ j ∧ j < i + l.length ∧ f.ofSample j := by
  induction l generalizing i with
  | nil => simp [sampleFields] at h
  | cons x rest ih =>
    rw [sampleFields_cons, List.mem_append] at h
    rcases h with h | h
    · exact ⟨i, le_refl i, by simp, ofSample_of_mem_entry h⟩
    · obtain ⟨j, hi, hj, hf⟩ := ih h
      exact ⟨j, by omega, by simp only [List.length_cons]; omega, hf⟩

theorem table_samples {i : Nat} {l : List Sample} (h : i + l.length ≤ 8) : Table 0x600 0x6A0 (sampleFields i l) := by
  refine ⟨fun f hf => ?_, ?_⟩
  · obtain ⟨j, -, hj, hf⟩ := ofSample_of_mem hf
    unfold Field.ofSample at hf
    omega
  · induction l generalizing i with
    | nil => exact .nil
    | cons x rest ih =>
      rw [List.length_cons] at h
      rw [sampleFields_cons]
      refine List.pairwise_append.2 ⟨?_, ih (by omega), fun f hf g hg => ?_⟩
      · simp only [sampleEntry, Field.apart, List.pairwise_cons, List.mem_cons, List.not_mem_nil, or_false, forall_eq_or_imp,
          forall_eq, IsEmpty.forall_iff, implies_true, List.Pairwise.nil, and_true]
        omega
      · obtain ⟨j, hi, hj, hg⟩ := ofSample_of_mem hg
        have hf := ofSample_of_mem_entry hf
        unfold Field.ofSample at hf hg
        unfold Field.apart
        omega

theorem rising_countFields (offset : Nat) (l : List Nat) : rising offset (offset + 4 * l.length) (countFields offset l) := by
  induction l generalizing offset with
  | nil => exact le_refl _
  | cons c rest ih =>
    refine ⟨le_refl _, ?_⟩
    have := ih (offset + 4)
    rwa [List.length_cons, Nat.mul_add, Nat.add_comm (4 * rest.length), ← Nat.add_assoc]

theorem table_tallies (t : Tallies) : Table 0x6A0 0x6FC (tallyFields t) := by
  have h := rising_countFields 0x6A0 ([t.landed, t.gated, t.underruns, t.stalls, t.advices, t.unheeded, t.upSwitches,
    t.downSwitches, t.holds, t.rejections, t.refusals] ++ t.dwellTime.toList)
  simp only [List.length_append, List.length_cons, List.length_nil, Vector.length_toList] at h
  exact table_of_rising h

/-- The report's fields form one table (section 10.2.2). -/
theorem table_report {s : State} (hq : s.stu.queue.length ≤ 8) (hr : s.te.ring.length ≤ 8) :
    Table 0x400 0x6FC (reportFields s) :=
  (((((table_header s).append ((table_status hq).widen (by decide)) (by decide) (by decide)).append
    ((table_estimator s).widen (by decide)) (by decide) (by decide)).append (table_slots s) (by decide) (by decide)).append
    (table_samples (by omega)) (by decide) (by decide)).append (table_tallies s.eru.tallies) (by decide) (by decide)

/-! ### Fields read back from the report's bytes -/

/-- The little-endian value of `width` report bytes at a page offset. -/
def reportValue (s : State) (offset width : Nat) : Nat :=
  ((List.range width).map (fun i => ((reportBytes s).getD (offset - 0x400 + i) 0).toNat * 256 ^ i)).sum

theorem reportBytes_getD {s : State} {a : Nat} (h : a < 1024) :
    (reportBytes s).getD a 0 = fieldsByte (reportFields s) (0x400 + a) := by
  simp [reportBytes, List.getD, h]

/-- A field of the report's table is read back from its bytes (R156). -/
theorem reportValue_of_mem {s : State} (h : Table 0x400 0x6FC (reportFields s)) {offset width value : Nat}
    (hf : (⟨offset, width, value⟩ : Field) ∈ reportFields s) : reportValue s offset width = value % 256 ^ width := by
  have inside := h.inside _ hf
  dsimp only at inside
  rw [← sum_byteOf, reportValue]
  refine congrArg List.sum (List.map_congr_left fun i hi => ?_)
  rw [List.mem_range] at hi
  rw [reportBytes_getD (by omega), show 0x400 + (offset - 0x400 + i) = offset + i by omega,
    fieldsByte_of_mem h.apart hf hi]

/-- Bytes of no field read 0 (R156). -/
theorem reportValue_of_uncovered {s : State} {offset width : Nat} (hl : 0x400 ≤ offset) (hh : offset + width ≤ 0x800)
    (h : ∀ i, i < width → uncovered (reportFields s) (offset + i)) : reportValue s offset width = 0 % 256 ^ width := by
  rw [Nat.zero_mod, reportValue, List.sum_eq_zero]
  simp only [List.mem_map, List.mem_range]
  rintro _ ⟨i, hi, rfl⟩
  rw [reportBytes_getD (by omega), show 0x400 + (offset - 0x400 + i) = offset + i by omega,
    fieldsByte_of_uncovered (h i hi)]
  simp

/-! ### Bytes of no field -/

/-- A byte that a table covers, if at all, within its bounds. -/
theorem Table.uncovered_of {low high : Nat} {l : List Field} (h : Table low high l) {a : Nat}
    (k : low ≤ a → a < high → Machine.uncovered l a) : Machine.uncovered l a := by
  by_cases ha : a < low ∨ high ≤ a
  · exact h.uncovered ha
  · exact k (by omega) (by omega)

/-- The fields of an absent note are covered by nothing, and so is the byte after each note (R144). -/
theorem uncovered_notes {s : State} {a : Nat} (rejection : 0x450 ≤ a → a < 0x453 → s.ccu.rejectionNote = none)
    (clamp : 0x454 ≤ a → a < 0x457 → s.ccu.clampNote = none)
    (directive : 0x458 ≤ a → a < 0x45B → s.ccu.directiveNote = none) : uncovered (noteFields s) a := by
  have note (b x y z : Nat) (ha : ¬ (b ≤ a ∧ a < b + 3)) : uncovered [⟨b, 1, x⟩, ⟨b + 1, 1, y⟩, ⟨b + 2, 1, z⟩] a := by
    refine Table.uncovered (low := b) (high := b + 3) (table_of_rising ?_) (by omega)
    simp [rising]
  unfold noteFields
  rw [uncovered_append, uncovered_append]
  refine ⟨⟨?_, ?_⟩, ?_⟩
  · cases h : s.ccu.rejectionNote with
    | none => simp [uncovered]
    | some r => exact note 0x450 _ _ _ (fun ha => by simp [rejection ha.1 ha.2] at h)
  · cases h : s.ccu.clampNote with
    | none => simp [uncovered]
    | some r => exact note 0x454 _ _ _ (fun ha => by simp [clamp ha.1 ha.2] at h)
  · cases h : s.ccu.directiveNote with
    | none => simp [uncovered]
    | some r => exact note 0x458 _ _ _ (fun ha => by simp [directive ha.1 ha.2] at h)

/-- The status part covers notes that are present and queue entries that there are. -/
theorem uncovered_status {s : State} {a : Nat} (ha : (0x450 ≤ a ∧ a < 0x45C) ∨ 0x461 + s.stu.queue.length ≤ a)
    (notes : a < 0x45C → uncovered (noteFields s) a) : uncovered (statusFields s) a := by
  simp only [statusFields_eq, uncovered_append]
  exact ⟨⟨⟨⟨(table_session s).uncovered (by omega), (table_positions s).uncovered (by omega)⟩,
    (table_notes s).uncovered_of (fun _ h => notes h)⟩, (table_flags s).uncovered (by omega)⟩,
    (table_queue s).uncovered (by omega)⟩

theorem uncovered_slot (s : State) (n : Fin 8) {a : Nat} (ha : 0x506 + 32 * n.val ≤ a ∧ a < 0x508 + 32 * n.val) :
    uncovered (allSlots.flatMap (slotFields s)) a := by
  intro f hf
  obtain ⟨m, -, hf⟩ := List.mem_flatMap.1 hf
  by_cases hm : m = n
  · subst hm
    have gap : uncovered (slotFields s m) a := by
      simp only [slotFields, uncovered_cons, uncovered_nil, and_true]
      omega
    exact gap f hf
  · have : m.val ≠ n.val := fun h => hm (Fin.ext h)
    exact (table_slot s m).uncovered (by omega) f hf

/-- An entry that the sample ring does not hold is covered by nothing. -/
theorem uncovered_samples {l : List Sample} {j a : Nat} (hj : l.length ≤ j) (h8 : j < 8)
    (ha : (0x600 + 16 * j ≤ a ∧ a < 0x610 + 16 * j) ∨ (0x680 + 4 * j ≤ a ∧ a < 0x684 + 4 * j)) :
    uncovered (sampleFields 0 l) a := by
  intro f hf
  obtain ⟨i, -, hi, hf⟩ := ofSample_of_mem hf
  unfold Field.ofSample at hf
  omega

/-- A byte of no field, if it is one in the part of the report in which it falls. -/
theorem uncovered_report {s : State} (hq : s.stu.queue.length ≤ 8) (hr : s.te.ring.length ≤ 8) {a : Nat}
    (header : a < 0x440 → uncovered (headerFields s) a) (status : 0x440 ≤ a → a < 0x469 → uncovered (statusFields s) a)
    (estimator : 0x4C0 ≤ a → a < 0x4DC → uncovered (estimatorFields s) a)
    (slots : 0x500 ≤ a → a < 0x600 → uncovered (allSlots.flatMap (slotFields s)) a)
    (samples : 0x600 ≤ a → a < 0x6A0 → uncovered (sampleFields 0 s.te.ring) a) (tallies : a < 0x6A0 ∨ 0x6FC ≤ a) :
    uncovered (reportFields s) a := by
  simp only [reportFields, uncovered_append]
  exact ⟨⟨⟨⟨⟨(table_header s).uncovered_of (fun _ h => header h), (table_status hq).uncovered_of status⟩,
    (table_estimator s).uncovered_of estimator⟩, (table_slots s).uncovered_of slots⟩,
    (table_samples (i := 0) (by omega)).uncovered_of samples⟩, (table_tallies _).uncovered tallies⟩

/-- The offsets of section 10.2.2 that no row covers (R156). -/
theorem uncovered_unused {s : State} (hq : s.stu.queue.length ≤ 8) (hr : s.te.ring.length ≤ 8) {a : Nat}
    (ha : a = 0x403 ∨ (0x408 ≤ a ∧ a < 0x440) ∨ a = 0x453 ∨ a = 0x457 ∨ a = 0x45B ∨ (0x469 ≤ a ∧ a < 0x4C0)
      ∨ (0x4C6 ≤ a ∧ a < 0x4C8) ∨ (0x4DC ≤ a ∧ a < 0x500) ∨ (0x6FC ≤ a ∧ a < 0x800)) : uncovered (reportFields s) a := by
  refine uncovered_report hq hr (fun h => ?_) (fun h1 h2 => ?_) (fun h1 h2 => ?_) (fun _ _ => by omega) (fun _ _ => by omega)
    (by omega)
  · simp only [headerFields, uncovered_cons, uncovered_nil, and_true]
    omega
  · exact uncovered_status (by omega) (fun _ => uncovered_notes (by omega) (by omega) (by omega))
  · simp only [estimatorFields, uncovered_cons, uncovered_nil, and_true]
    omega

/-! ### Entries of the lists of fields -/

theorem getElem?_countFields (offset : Nat) (l : List Nat) (k : Nat) :
    (countFields offset l)[k]? = l[k]?.map (fun c => ⟨offset + 4 * k, 4, c⟩) := by
  induction l generalizing offset k with
  | nil => rfl
  | cons c rest ih =>
    cases k with
    | zero => rfl
    | succ k =>
      simp only [countFields, List.getElem?_cons_succ, ih]
      rw [show offset + 4 + 4 * k = offset + 4 * (k + 1) by omega]

theorem getElem?_queueFields (offset : Nat) (l : List (Fin 8)) (k : Nat) :
    (queueFields offset l)[k]? = l[k]?.map (fun n => ⟨offset + k, 1, n.val⟩) := by
  induction l generalizing offset k with
  | nil => rfl
  | cons n rest ih =>
    cases k with
    | zero => rfl
    | succ k =>
      simp only [queueFields, List.getElem?_cons_succ, ih]
      rw [show offset + 1 + k = offset + (k + 1) by omega]

theorem mem_sampleFields {i k : Nat} {l : List Sample} {x : Sample} (h : l[k]? = some x) {f : Field}
    (hf : f ∈ sampleEntry (i + k) x) : f ∈ sampleFields i l := by
  induction l generalizing i k with
  | nil => simp at h
  | cons y rest ih =>
    rw [sampleFields_cons, List.mem_append]
    cases k with
    | zero =>
      cases h
      exact .inl hf
    | succ k => exact .inr (ih h (by rwa [Nat.add_right_comm, Nat.add_assoc]))

/-- The report's bytes at an offset are a value's, in little-endian order, as far as the width goes. -/
def shown (s : State) (offset width value : Nat) : Prop := reportValue s offset width = value % 256 ^ width

/-! ### Parts of the report that depend on what the state holds

A state whose queue and ring have at most eight entries each. -/

section
variable {s : State} (hq : s.stu.queue.length ≤ 8) (hr : s.te.ring.length ≤ 8)
include hq hr

theorem shown_of_mem {offset width value : Nat} (h : (⟨offset, width, value⟩ : Field) ∈ reportFields s) :
    shown s offset width value := reportValue_of_mem (table_report hq hr) h

theorem shown_status {offset width value : Nat} (h : (⟨offset, width, value⟩ : Field) ∈ statusFields s) :
    shown s offset width value := shown_of_mem hq hr (by simp [reportFields, h])

theorem shown_note {offset width value : Nat} (h : (⟨offset, width, value⟩ : Field) ∈ noteFields s) :
    shown s offset width value := shown_status hq hr (by simp [statusFields_eq, h])

/-- The three bytes of an absent note are 0 (R144). -/
theorem shown_noNote {offset : Nat} (h : offset = 0x450 ∧ s.ccu.rejectionNote = none
    ∨ offset = 0x454 ∧ s.ccu.clampNote = none ∨ offset = 0x458 ∧ s.ccu.directiveNote = none) : shown s offset 3 0 := by
  refine reportValue_of_uncovered (by omega) (by omega) fun i hi => uncovered_report hq hr (by omega) (fun _ _ => ?_) (by omega)
    (by omega) (by omega) (by omega)
  refine uncovered_status (by omega) fun _ => ?_
  rcases h with ⟨rfl, h⟩ | ⟨rfl, h⟩ | ⟨rfl, h⟩
  · exact uncovered_notes (fun _ _ => h) (by omega) (by omega)
  · exact uncovered_notes (by omega) (fun _ _ => h) (by omega)
  · exact uncovered_notes (by omega) (by omega) (fun _ _ => h)

theorem shown_queue {q : Nat} (hq8 : q < 8) :
    shown s (0x461 + q) 1 ((s.stu.queue.map (fun n => n.val)).getD q 0) := by
  rw [List.getD_eq_getElem?_getD, List.getElem?_map]
  cases h : s.stu.queue[q]? with
  | some n =>
    have entry : (queueFields 0x461 s.stu.queue)[q]? = some ⟨0x461 + q, 1, n.val⟩ := by rw [getElem?_queueFields, h]; rfl
    exact shown_status hq hr (by simp [statusFields_eq, List.mem_of_getElem? entry])
  | none =>
    have past := List.getElem?_eq_none_iff.1 h
    exact reportValue_of_uncovered (by omega) (by omega) fun i hi => uncovered_report hq hr (by omega)
      (fun _ _ => uncovered_status (by omega) (by omega)) (by omega) (by omega) (by omega) (by omega)

theorem shown_slot (n : Fin 8) (k : Nat) {offset offset' width value : Nat}
    (h : (slotFields s n)[k]? = some ⟨offset', width, value⟩) (ho : offset = offset') : shown s offset width value := by
  subst ho
  have := List.mem_flatMap.2 ⟨n, mem_allSlots n, List.mem_of_getElem? h⟩
  exact shown_of_mem hq hr (by simp [reportFields, this])

theorem shown_slotGap (n : Fin 8) : shown s (0x506 + 32 * n.val) 2 0 :=
  reportValue_of_uncovered (by omega) (by omega) fun i hi => uncovered_report hq hr (by omega) (by omega) (by omega)
    (fun _ _ => uncovered_slot s n (by omega)) (by omega) (by omega)

theorem shown_sample {i : Nat} {x : Sample} (hx : s.te.ring[i]? = some x) (k : Nat) {offset width value : Nat}
    (h : (sampleEntry i x)[k]? = some ⟨offset, width, value⟩) : shown s offset width value := by
  have entry : (⟨offset, width, value⟩ : Field) ∈ sampleFields 0 s.te.ring :=
    mem_sampleFields hx (by rw [Nat.zero_add]; exact List.mem_of_getElem? h)
  exact shown_of_mem hq hr (by simp [reportFields, entry])

/-- An entry that the ring does not hold reads 0 (section 10.2.2). -/
theorem shown_noSample {i : Nat} (hi : i < 8) (hx : s.te.ring[i]? = none) {offset width : Nat}
    (h : (0x600 + 16 * i ≤ offset ∧ offset + width ≤ 0x610 + 16 * i)
      ∨ (0x680 + 4 * i ≤ offset ∧ offset + width ≤ 0x684 + 4 * i)) : shown s offset width 0 :=
  reportValue_of_uncovered (by omega) (by omega) fun j hj => uncovered_report hq hr (by omega) (by omega) (by omega) (by omega)
    (fun _ _ => uncovered_samples (List.getElem?_eq_none_iff.1 hx) hi (by omega)) (by omega)

theorem shown_tally (k : Nat) {offset value : Nat} (h : (tallyFields s.eru.tallies)[k]? = some ⟨offset, 4, value⟩) :
    shown s offset 4 value := shown_of_mem hq hr (by simp [reportFields, List.mem_of_getElem? h])

theorem shown_dwellTime (k : Fin 12) : shown s (0x6CC + 4 * k.val) 4 s.eru.tallies.dwellTime[k] := by
  refine shown_tally hq hr (11 + k.val) ?_
  rw [tallyFields, getElem?_countFields, List.getElem?_append_right (by simp)]
  simp [Nat.mul_add, ← Nat.add_assoc]

theorem shown_unused {i : Nat} (h : i = 0x403 ∨ (0x408 ≤ i ∧ i < 0x440) ∨ i = 0x453 ∨ i = 0x457 ∨ i = 0x45B
    ∨ (0x469 ≤ i ∧ i < 0x4C0) ∨ (0x4C6 ≤ i ∧ i < 0x4C8) ∨ (0x4DC ≤ i ∧ i < 0x500) ∨ (0x6FC ≤ i ∧ i < 0x800)) : shown s i 1 0 :=
  reportValue_of_uncovered (by omega) (by omega) fun j hj => by
    obtain rfl : j = 0 := by omega
    exact uncovered_unused hq hr h

end

/-! ### The statement -/

/-- Settles O43. Every clause names a field of the table, or bytes that no field covers. -/
theorem reportShowsTheState : Obligations.ReportShowsTheState := by
  unfold Obligations.ReportShowsTheState
  intro s hq hr field shows mark
  have header {offset width value : Nat} (i : Nat) (h : (headerFields s)[i]? = some ⟨offset, width, value⟩) :
      shows offset width value := shown_of_mem hq hr (by simp [reportFields, List.mem_of_getElem? h])
  have session {offset width value : Nat} (i : Nat) (h : (sessionFields s)[i]? = some ⟨offset, width, value⟩) :
      shows offset width value := shown_status hq hr (by simp [statusFields_eq, List.mem_of_getElem? h])
  have position {offset width value : Nat} (p : Position) (i : Nat)
      (h : (positionFields s p)[i]? = some ⟨offset, width, value⟩) : shows offset width value := by
    have := List.mem_flatMap.2 ⟨p, mem_allPositions p, List.mem_of_getElem? h⟩
    exact shown_status hq hr (by simp [statusFields_eq, this])
  have flags {offset width value : Nat} (i : Nat) (h : (flagFields s)[i]? = some ⟨offset, width, value⟩) :
      shows offset width value := shown_status hq hr (by simp [statusFields_eq, List.mem_of_getElem? h])
  have estimator {offset width value : Nat} (i : Nat) (h : (estimatorFields s)[i]? = some ⟨offset, width, value⟩) :
      shows offset width value := shown_of_mem hq hr (by simp [reportFields, List.mem_of_getElem? h])
  have tally {offset value : Nat} (i : Nat) (h : (tallyFields s.eru.tallies)[i]? = some ⟨offset, 4, value⟩) :
      shows offset 4 value := shown_tally hq hr i h
  refine ⟨header 0 rfl, header 1 rfl, header 2 rfl, header 3 rfl, header 4 rfl, header 5 rfl, header 6 rfl,
    session 0 rfl, session 1 rfl, session 2 rfl, session 3 rfl,
    fun p => ⟨position p 0 rfl, position p 1 rfl, position p 2 rfl⟩,
    fun h => shown_noNote hq hr (.inl ⟨rfl, h⟩), fun r h => ?rejection,
    fun h => shown_noNote hq hr (.inr (.inl ⟨rfl, h⟩)), fun c h => ?clamp,
    fun h => shown_noNote hq hr (.inr (.inr ⟨rfl, h⟩)), fun d h => ?directive,
    flags 0 rfl, flags 1 rfl, flags 2 rfl, fun q hq8 => shown_queue hq hr hq8,
    estimator 0 rfl, estimator 1 rfl, estimator 2 rfl, estimator 3 rfl, estimator 4 rfl, estimator 5 rfl, estimator 6 rfl,
    estimator 7 rfl, estimator 8 rfl, estimator 9 rfl, estimator 10 rfl, fun n => ?slot, fun i hi => ?sample,
    tally 0 rfl, tally 1 rfl, tally 2 rfl, tally 3 rfl, tally 4 rfl, tally 5 rfl, tally 6 rfl, tally 7 rfl, tally 8 rfl,
    tally 9 rfl, tally 10 rfl, fun k => shown_dwellTime hq hr k, fun i hi => shown_unused hq hr hi⟩
  case rejection =>
    exact ⟨shown_note hq hr (by simp [noteFields, h]), shown_note hq hr (by simp [noteFields, h]),
      shown_note hq hr (by simp [noteFields, h])⟩
  case clamp =>
    exact ⟨shown_note hq hr (by simp [noteFields, h]), shown_note hq hr (by simp [noteFields, h]),
      shown_note hq hr (by simp [noteFields, h])⟩
  case directive =>
    exact ⟨shown_note hq hr (by simp [noteFields, h]), shown_note hq hr (by simp [noteFields, h]),
      shown_note hq hr (by simp [noteFields, h])⟩
  case slot =>
    have entry {offset offset' width value : Nat} (k : Nat) (h : (slotFields s n)[k]? = some ⟨offset', width, value⟩)
        (ho : offset = offset') : shows offset width value := shown_slot hq hr n k h ho
    exact ⟨entry 0 rfl rfl, entry 1 rfl (by omega), entry 2 rfl (by omega), entry 3 rfl (by omega), entry 4 rfl (by omega),
      shown_slotGap hq hr n, entry 5 rfl (by omega), entry 6 rfl (by omega), entry 7 rfl (by omega), entry 8 rfl (by omega),
      entry 9 rfl (by omega), entry 10 rfl (by omega)⟩
  case sample =>
    simp only [List.getD_eq_getElem?_getD, List.getElem?_map]
    cases hx : s.te.ring[i]? with
    | some x =>
      have entry {offset width value : Nat} (k : Nat) (h : (sampleEntry i x)[k]? = some ⟨offset, width, value⟩) :
          shows offset width value := shown_sample hq hr hx k h
      exact ⟨entry 0 rfl, entry 1 rfl, entry 2 rfl, entry 3 rfl, entry 4 rfl, entry 5 rfl⟩
    | none =>
      have absent {offset width : Nat} (h : (0x600 + 16 * i ≤ offset ∧ offset + width ≤ 0x610 + 16 * i)
          ∨ (0x680 + 4 * i ≤ offset ∧ offset + width ≤ 0x684 + 4 * i)) : shows offset width 0 := shown_noSample hq hr hi hx h
      exact ⟨absent (by omega), absent (by omega), absent (by omega), absent (by omega), absent (by omega),
        absent (by omega)⟩

end Sys2Proof.Machine
end

section
/-! PROOF. Which way a command goes: a write, a read response, an expiry step, or an event taken while RST is released; what an
asserted RST leaves of it (O3), and what of the tie-offs and the time base it keeps (O48). -/

namespace Sys2Proof.Machine

/-! ### Expiry steps, and events taken while RST is released -/

theorem expiryStep_of_reset {s : State} (h : s.pif.resetAsserted = true) (due : State → Bool) (event : State → State) :
    expiryStep s due event = s := by simp [expiryStep, h]

theorem expiryStep_of_not_due {s : State} {due : State → Bool} (h : due s = false) (event : State → State) :
    expiryStep s due event = s := by simp [expiryStep, h]

/-- An expiry step is one event of the part, taken if its timer is due (R34). -/
theorem exec_of_isExpiry {c : Instr} (h : isExpiry c = true) :
    ∃ due event, (∀ s, Kept s (event s)) ∧ ∀ s, exec c s = .next (expiryStep s due event) := by
  cases c <;> simp only [isExpiry, Bool.false_eq_true] at h
  case settleExpiry p => exact ⟨_, _, fun s => kept_settleExpires s p, fun _ => rfl⟩
  case stallExpiry n => exact ⟨_, _, fun s => kept_stallExpires s n, fun _ => rfl⟩
  case checkExpiry n => exact ⟨_, _, fun s => kept_checkExpires s n, fun _ => rfl⟩
  case graceExpiry n => exact ⟨_, _, fun s => kept_graceExpires s n, fun _ => rfl⟩

/-- Time and the directives are events taken while RST is released; of them time alone moves the time base (R32, R33). -/
theorem exec_of_event {c : Instr} (hw : writeOf c = none) (hr : readOf c = none) (he : isExpiry c = false)
    (hc : isReset c = false) : ∃ event, (c ≠ .tick → c ≠ .refclkPeriod → ∀ s, Kept s (event s))
      ∧ ∀ s, exec c s = .next (whenReleased s event) := by
  have entry (code : Byte) (argument : BitVec 32) (i : Nat) : ∀ s, Kept s (takeEntry s code argument i) :=
    fun s => kept_takeEntry s code argument i
  cases c <;> simp only [writeOf, readOf, isExpiry, isReset, reduceCtorEq] at hw hr he hc
  case tick => exact ⟨tickTime, fun h => absurd rfl h, fun _ => rfl⟩
  case refclkPeriod => exact ⟨refclkTime, fun _ h => absurd rfl h, fun _ => rfl⟩
  case arm i => exact ⟨_, fun _ _ => entry 1 0 i, fun _ => rfl⟩
  case suspend i => exact ⟨_, fun _ _ => entry 2 0 i, fun _ => rfl⟩
  case resume i => exact ⟨_, fun _ _ => entry 3 0 i, fun _ => rfl⟩
  case flush => exact ⟨_, fun _ _ => entry 4 0 0, fun _ => rfl⟩
  case teardown i => exact ⟨_, fun _ _ => entry 5 0 i, fun _ => rfl⟩
  case restart => exact ⟨_, fun _ _ => kept_takeRestart, fun _ => rfl⟩
  case seed rate => exact ⟨_, fun _ _ => entry 7 rate 0, fun _ => rfl⟩
  case clearTallies => exact ⟨_, fun _ _ => entry 8 0 0, fun _ => rfl⟩
  case ack mask => exact ⟨_, fun _ _ => entry 9 mask 0, fun _ => rfl⟩
  case enable mask => exact ⟨_, fun _ _ => entry 10 mask 0, fun _ => rfl⟩
  case unknownDirective code i => exact ⟨_, fun _ _ s => kept_noteDirective s code i.val .unknown, fun _ => rfl⟩

/-- Under an asserted RST a command that is no transaction and no edge of RST does nothing (R32). -/
theorem exec_of_reset {c : Instr} {s : State} (hs : s.pif.resetAsserted = true) (hw : writeOf c = none)
    (hr : readOf c = none) (hc : isReset c = false) : exec c s = .next s := by
  cases he : isExpiry c with
  | true =>
    obtain ⟨due, event, -, ht⟩ := exec_of_isExpiry he
    rw [ht, expiryStep_of_reset hs]
  | false =>
    obtain ⟨event, -, ht⟩ := exec_of_event hw hr he hc
    rw [ht, whenReleased_of_reset hs]

/-- Settles O3. A transaction passes through the ports alone; every other command waits for the release of RST. -/
theorem assertedResetObservesNothing : Obligations.AssertedResetObservesNothing := by
  unfold Obligations.AssertedResetObservesNothing
  intro c s hs
  refine ⟨fun w hw => ?_, fun r hr => ?_, exec_of_reset hs⟩
  · rw [exec_of_writeOf hw, writeTransaction_of_reset hs]; rfl
  · rw [exec_of_readOf hr, readTransaction_of_reset hs]; rfl

/-! ### The tie-offs and the time base -/

theorem kept_whenReleased {event : State → State} (h : ∀ s, Kept s (event s)) (s : State) :
    Kept s (whenReleased s event) := by
  unfold whenReleased
  split
  · exact Kept.refl s
  · exact (kept_takeDueExpiries s).trans (h _)

theorem kept_expiryStep {event : State → State} (h : ∀ s, Kept s (event s)) (due : State → Bool) (s : State) :
    Kept s (expiryStep s due event) := by
  unfold expiryStep
  split
  · exact Kept.refl s
  · split
    · exact h s
    · exact Kept.refl s

/-- A write keeps all that no event touches but the write it shows as the last forwarded (R17). -/
theorem kept_writeTransaction (s : State) (w : BusWrite) : Kept (forwardWrite s w) (writeTransaction s w) :=
  kept_whenReleased (fun t => kept_observeWrite t w) (forwardWrite s w)

theorem kept_returnRead (s : State) (r : ReadResponse) (data : List Byte) : Kept s (returnRead s r data) :=
  ⟨rfl, rfl, rfl, rfl, rfl⟩

theorem kept_readTransaction (s : State) (r : ReadResponse) : Kept s (readTransaction s r) := by
  unfold readTransaction readReleased
  split
  · exact kept_returnRead s r _
  · split
    · exact (kept_takeDueExpiries s).trans (kept_returnRead _ r _)
    · exact (kept_takeDueExpiries s).trans ((kept_observeRead _ r).trans (kept_returnRead _ r _))

/-- `t` has the tie-offs of `s`: page base, prescaler and revision, with the RST input as it was (R20). -/
structure TieOffsKept (s t : State) : Prop where
  pif : t.pif = s.pif
  prescaler : t.tb.prescaler = s.tb.prescaler
  revision : t.eru.revision = s.eru.revision

theorem Kept.tieOffs {s t : State} (h : Kept s t) : TieOffsKept s t := ⟨h.pif, by rw [h.tb], h.revision⟩

theorem tieOffs_tickTime (s : State) : TieOffsKept s (tickTime s) := ⟨rfl, rfl, rfl⟩

theorem tieOffs_refclkTime (s : State) : TieOffsKept s (refclkTime s) := by
  unfold refclkTime
  split
  · exact ⟨rfl, rfl, rfl⟩
  · exact tieOffs_tickTime s

/-- An event that keeps the tie-offs keeps them with the expiries that are taken before it. -/
theorem tieOffs_whenReleased {event : State → State} (h : ∀ s, TieOffsKept s (event s)) (s : State) :
    TieOffsKept s (whenReleased s event) := by
  unfold whenReleased
  split
  · exact (Kept.refl s).tieOffs
  · have before := (kept_takeDueExpiries s).tieOffs
    have after := h (takeDueExpiries s)
    exact ⟨after.pif.trans before.pif, after.prescaler.trans before.prescaler, after.revision.trans before.revision⟩

/-- Every command but the edges of RST, TICK and REFCLK_PERIOD keeps tie-offs and time base (R20, R33). -/
theorem exec_keeps_time {c : Instr} {s t : State} (ht : exec c s = .next t) (hc : isReset c = false) (tick : c ≠ .tick)
    (period : c ≠ .refclkPeriod) : TieOffsKept s t ∧ t.tb = s.tb := by
  have both {u : State} (h : Kept s u) : TieOffsKept s u ∧ u.tb = s.tb := ⟨h.tieOffs, h.tb⟩
  cases hw : writeOf c with
  | some w =>
    rw [exec_of_writeOf hw] at ht
    cases ht
    have h := kept_writeTransaction s w
    exact ⟨⟨h.pif, h.tieOffs.prescaler, h.revision⟩, h.tb⟩
  | none =>
    cases hr : readOf c with
    | some r =>
      rw [exec_of_readOf hr] at ht
      cases ht
      exact both (kept_readTransaction s r)
    | none =>
      cases he : isExpiry c with
      | true =>
        obtain ⟨due, event, kept, taken⟩ := exec_of_isExpiry he
        rw [taken] at ht
        cases ht
        exact both (kept_expiryStep kept due s)
      | false =>
        obtain ⟨event, kept, taken⟩ := exec_of_event hw hr he hc
        rw [taken] at ht
        cases ht
        exact both (kept_whenReleased (kept tick period) s)

/-- Settles O48. -/
theorem baseAndTimeAreKept : Obligations.BaseAndTimeAreKept := by
  unfold Obligations.BaseAndTimeAreKept
  intro c s t ht hc
  have tieOffs : TieOffsKept s t := by
    by_cases tick : c = .tick
    · subst tick
      cases ht
      exact tieOffs_whenReleased tieOffs_tickTime s
    · by_cases period : c = .refclkPeriod
      · subst period
        cases ht
        exact tieOffs_whenReleased tieOffs_refclkTime s
      · exact (exec_keeps_time ht hc tick period).1
  exact ⟨tieOffs.pif, tieOffs.prescaler, tieOffs.revision, fun tick period => (exec_keeps_time ht hc tick period).2⟩

end Sys2Proof.Machine
end

section
/-! PROOF. The due expiries: they read neither ports nor queue, so that a write's status takes nothing back (O46), and taking them
leaves none due (O6). -/

namespace Sys2Proof.Machine

/-! ### Expiries read neither ports nor queue -/

section
variable {s : State} {p : Ports} {q : List Instr}

theorem settleExpires_relabelled (r : Position) :
    settleExpires (s.relabelled p q) r = (settleExpires s r).relabelled p q := by cases r <;> exact relabelled_ite rfl rfl

theorem settleDue_relabelled (r : Position) : (s.relabelled p q).settleDue r = s.settleDue r := by cases r <;> rfl

theorem stallExpires_relabelled (n : Fin 8) : stallExpires (s.relabelled p q) n = (stallExpires s n).relabelled p q :=
  relabelled_ite rfl rfl

theorem checkExpires_relabelled (n : Fin 8) : checkExpires (s.relabelled p q) n = (checkExpires s n).relabelled p q :=
  relabelled_ite (relabelled_ite rfl rfl) rfl

/-- A list of operations none of which reads ports or queue. -/
theorem foldl_relabelled {α : Type} {f : State → α → State}
    (h : ∀ (s : State) a, f (s.relabelled p q) a = (f s a).relabelled p q) (l : List α) :
    l.foldl f (s.relabelled p q) = (l.foldl f s).relabelled p q := by
  induction l generalizing s with
  | nil => rfl
  | cons a l ih => rw [List.foldl_cons, List.foldl_cons, h, ih]

theorem slotExpiries_relabelled (n : Fin 8) : slotExpiries (s.relabelled p q) n = (slotExpiries s n).relabelled p q := by
  have stall (s : State) : stallIfDue (s.relabelled p q) n = (stallIfDue s n).relabelled p q :=
    relabelled_ite (stallExpires_relabelled n) rfl
  have check (s : State) : checkIfDue (s.relabelled p q) n = (checkIfDue s n).relabelled p q :=
    relabelled_ite (checkExpires_relabelled n) rfl
  have grace (s : State) : graceIfDue (s.relabelled p q) n = (graceIfDue s n).relabelled p q := relabelled_ite rfl rfl
  rw [slotExpiries, stall, check, grace, slotExpiries]

theorem settleExpiries_relabelled : settleExpiries (s.relabelled p q) = (settleExpiries s).relabelled p q := by
  have due : (s.relabelled p q).settleDue = s.settleDue := funext settleDue_relabelled
  have free : (s.relabelled p q).freeCount = s.freeCount := rfl
  unfold settleExpiries
  rw [due, free]
  split
  · rfl
  · exact settleExpires_relabelled _
  · dsimp only
    rw [foldl_relabelled (fun _ => settleExpires_relabelled), settleExpires_relabelled]
    rfl

/-- What is due is taken alike whatever the ports show and whatever waits. -/
theorem takeDueExpiries_relabelled : takeDueExpiries (s.relabelled p q) = (takeDueExpiries s).relabelled p q :=
  (congrArg (allSlots.foldl slotExpiries) settleExpiries_relabelled).trans
    (foldl_relabelled (fun _ => slotExpiries_relabelled) allSlots)

theorem whenReleased_relabelled {event : State → State}
    (h : ∀ s : State, event (s.relabelled p q) = (event s).relabelled p q) :
    whenReleased (s.relabelled p q) event = (whenReleased s event).relabelled p q := by
  refine relabelled_ite rfl ?_
  rw [takeDueExpiries_relabelled, h]

end

theorem relabelled_ports (s : State) (p : Ports) (q : List Instr) : (s.relabelled p q).ports = p := rfl

/-- The due expiries leave the ports as they were. -/
theorem takeDueExpiries_ports (s : State) : (takeDueExpiries s).ports = s.ports := by
  have same : s.relabelled s.ports s.pending = s := rfl
  have taken := takeDueExpiries_relabelled (s := s) (p := s.ports) (q := s.pending)
  rw [same] at taken
  exact (congrArg State.ports taken).trans (relabelled_ports _ _ _)

/-- What a write leaves: what its observation leaves, with the write at the port (R17, R18). -/
theorem writeTransaction_eq (s : State) (w : BusWrite) : writeTransaction s w =
    (whenReleased s (fun t => observeWrite t w)).relabelled { s.ports with write := some w } s.pending :=
  whenReleased_relabelled (s := s) (fun _ => observeWrite_relabelled w)

/-- Settles O46. What is observed of a write is its address, tag and lanes; its status shows at the port alone. -/
theorem writeStatusTakesNothingBack : Obligations.WriteStatusTakesNothingBack := by
  unfold Obligations.WriteStatusTakesNothingBack
  intro c c' w status s hw hw'
  have observed : (fun t => observeWrite t { w with status := status }) = fun t => observeWrite t w := rfl
  refine ⟨(whenReleased s (fun t => observeWrite t w)).relabelled s.ports s.pending, ?_, ?_⟩
  · rw [exec_of_writeOf hw, writeTransaction_eq]; rfl
  · rw [exec_of_writeOf hw', writeTransaction_eq, observed]; rfl

/-! ### Settle expiries leave no settle timer due (R136) -/

theorem settleExpires_pm (s : State) (p : Position) : (settleExpires s p).pm = s.pm := by
  unfold settleExpires
  dsimp only
  split <;> exact State.setPosition_pm s p _

theorem settleExpires_setup (s : State) (p : Position) : (settleExpires s p).setup = s.setup := by
  unfold settleExpires
  dsimp only
  split <;> exact State.setPosition_setup s p _

theorem settleExpires_position (s : State) (p q : Position) : (settleExpires s p).position q =
    if q = p then (s.position p).settled else s.position q := by
  rw [← State.position_setPosition]
  unfold settleExpires
  dsimp only
  split
  · cases q <;> rfl
  · rfl

/-- Of a list of positions whose settle timers expire none has one running then, and of the others each has what it had. -/
theorem settleExpires_foldl (l : List Position) (s : State) (q : Position) :
    ((l.foldl settleExpires s).position q).settle = if q ∈ l then none else (s.position q).settle := by
  induction l generalizing s with
  | nil => simp
  | cons p l ih =>
    rw [List.foldl_cons, ih, settleExpires_position]
    by_cases hq : q = p <;> simp [hq, PositionState.settled]

/-- The due settle expiries are the expiries of a list of the due positions, in an order that is a free value. -/
theorem settleExpiries_eq (s : State) : ∃ (l : List Position) (k : Nat), (∀ p, p ∈ l ↔ s.settleDue p = true)
    ∧ settleExpiries s = { l.foldl settleExpires s with freeCount := k } := by
  have due (p : Position) : p ∈ allPositions.filter s.settleDue ↔ s.settleDue p = true := by
    simp [mem_allPositions]
  unfold settleExpiries
  split
  · rename_i h
    exact ⟨[], s.freeCount, by simpa only [h] using due, rfl⟩
  · rename_i p h
    exact ⟨[p], (settleExpires s p).freeCount, by simpa only [h] using due, rfl⟩
  · rename_i p rest _ h
    dsimp only
    generalize hi : Config.freeLastSettle s.freeCount % (p :: rest).length = i
    have hlt : i < (p :: rest).length := by rw [← hi]; exact Nat.mod_lt _ (by simp)
    have last : (p :: rest).getD i p ∈ p :: rest := by
      rw [List.getD_eq_getElem _ _ hlt]; exact List.getElem_mem hlt
    generalize (p :: rest).getD i p = x at last
    refine ⟨(p :: rest).filter (fun y => decide (y ≠ x)) ++ [x], s.freeCount + 1, fun r => ?_, ?_⟩
    · rw [← due, h]
      by_cases hr : r = x
      · simp only [hr, List.mem_append, List.mem_singleton, or_true, true_iff]; exact last
      · simp [hr]
    · rw [List.foldl_append]; rfl

theorem settleExpiries_pm (s : State) : (settleExpiries s).pm = s.pm := by
  obtain ⟨l, k, -, h⟩ := settleExpiries_eq s
  rw [h]
  exact List.foldlRecOn l settleExpires (motive := fun t => t.pm = s.pm) rfl
    (fun t ht p _ => (settleExpires_pm t p).trans ht)

theorem settleExpiries_setup (s : State) : (settleExpiries s).setup = s.setup := by
  obtain ⟨l, k, -, h⟩ := settleExpiries_eq s
  rw [h]
  exact List.foldlRecOn l settleExpires (motive := fun t => t.setup = s.setup) rfl
    (fun t ht p _ => (settleExpires_setup t p).trans ht)

theorem settleExpiries_not_settleDue (s : State) (p : Position) : (settleExpiries s).settleDue p = false := by
  obtain ⟨l, k, due, h⟩ := settleExpiries_eq s
  have now : (settleExpiries s).now = s.now := by rw [State.now, (kept_settleExpiries s).tb, State.now]
  have settle : ((settleExpiries s).position p).settle = if p ∈ l then none else (s.position p).settle := by
    rw [← settleExpires_foldl l s p, h]; cases p <;> rfl
  rw [State.settleDue, now, settle]
  split
  · rfl
  · rename_i hp
    rw [due] at hp
    simpa [State.settleDue] using hp

/-! ### The expiries of one slot leave none of its timers due (R115, R116, R126) -/

/-- No timer of slot `n` is due. -/
def slotQuiet (s : State) (n : Fin 8) : Prop := s.stallDue n = false ∧ s.checkDue n = false ∧ s.graceDue n = false

/-- A check timer that is restarted now does not expire now: its duration is at least 1 ms, or no check timer is due. -/
def checksEnd (s : State) : Prop := 1 ≤ s.setup.checkTime ∨ ∀ n, s.checkDue n = false

/-- An operation on slot `n` that leaves part time, CCU and the timers of the other slots as they were, and starts no check timer
but one of the check time in force. -/
structure ExpiresSlot (s t : State) (n : Fin 8) : Prop where
  tb : t.tb = s.tb
  ccu : t.ccu = s.ccu
  others : ∀ m, m ≠ n → t.timers m = s.timers m
  checks : checksEnd s → checksEnd t

theorem ExpiresSlot.refl (s : State) (n : Fin 8) : ExpiresSlot s s n := ⟨rfl, rfl, fun _ _ => rfl, id⟩

theorem ExpiresSlot.trans {s t u : State} {n : Fin 8} (h : ExpiresSlot s t n) (k : ExpiresSlot t u n) : ExpiresSlot s u n :=
  ⟨k.tb.trans h.tb, k.ccu.trans h.ccu, fun m hm => (k.others m hm).trans (h.others m hm), k.checks ∘ h.checks⟩

/-- An operation on slot `n` that leaves its check timer, or stops it. -/
theorem ExpiresSlot.of_check {s t : State} {n : Fin 8} (tb : t.tb = s.tb) (ccu : t.ccu = s.ccu)
    (others : ∀ m, m ≠ n → t.timers m = s.timers m)
    (check : (t.timers n).check = (s.timers n).check ∨ (t.timers n).check = none) : ExpiresSlot s t n := by
  refine ⟨tb, ccu, others, fun h => h.imp (fun h => by rwa [State.setup, ccu]) (fun h m => ?_)⟩
  have now : t.now = s.now := by rw [State.now, tb, State.now]
  have was := h m
  rw [State.checkDue] at was ⊢
  rw [now]
  by_cases hm : m = n
  · subst hm
    obtain hc | hc := check
    · rwa [hc]
    · rw [hc]; rfl
  · rwa [others m hm]

theorem advise_timers (s : State) (n m : Fin 8) : (advise s n).timers m =
    if m = n then { s.timers n with check := none, grace := startTimer s.now s.setup.graceTime } else s.timers m := by
  rw [advise, State.timers_setTimers]
  rfl

theorem advise_expiresSlot (s : State) (n : Fin 8) : ExpiresSlot s (advise s n) n :=
  .of_check rfl rfl (fun m hm => by rw [advise_timers, if_neg hm]) (.inr (by rw [advise_timers, if_pos rfl]))

/-- A stall expiry stops the stall timer, and advice does not start it again (R117, R124). -/
theorem stallExpires_expiresSlot (s : State) (n : Fin 8) :
    ExpiresSlot s (stallExpires s n) n ∧ ((stallExpires s n).timers n).stall = none := by
  have marked : ExpiresSlot s (reportEvent ((s.setTimers n { s.timers n with stall := none }).setSlot n
      { s.slot n with stalled := true }) .stall .stalls) n :=
    .of_check rfl rfl (fun m hm => by simp [hm]) (.inl (by simp))
  unfold stallExpires
  dsimp only
  split
  · exact ⟨marked.trans (advise_expiresSlot _ n), by rw [advise_timers, if_pos rfl]; simp⟩
  · exact ⟨marked, by simp⟩

/-- A check expiry stops the check timer, or starts it for the check time in force; the stall timer it leaves (R116). -/
theorem checkExpires_timers (s : State) (n : Fin 8) : (∀ m, m ≠ n → (checkExpires s n).timers m = s.timers m)
    ∧ ((checkExpires s n).timers n).stall = (s.timers n).stall
    ∧ (((checkExpires s n).timers n).check = none
      ∨ ((checkExpires s n).timers n).check = startTimer s.now s.setup.checkTime) := by
  unfold checkExpires
  dsimp only
  split
  · split
    · refine ⟨fun m hm => by rw [advise_timers, if_neg hm], ?_, .inl ?_⟩ <;> rw [advise_timers, if_pos rfl]
    · exact ⟨fun m hm => by simp [hm], by simp, .inr (by simp)⟩
  · exact ⟨fun m hm => by simp [hm], by simp, .inl (by simp)⟩

theorem checkExpires_ccu (s : State) (n : Fin 8) : (checkExpires s n).ccu = s.ccu := by
  unfold checkExpires
  dsimp only
  split
  · split <;> rfl
  · rfl

/-- A timer started now for at least 1 ms is not due now (R34). -/
theorem timerDue_startTimer {now : Tick} {duration : Nat} (h : 1 ≤ duration) :
    timerDue now (startTimer now duration) = false := by
  simp only [timerDue, startTimer, interval, BitVec.sub_self, decide_eq_false_iff_not]
  simpa using Nat.ne_of_gt h

theorem stallIfDue_ends (s : State) (n : Fin 8) :
    ExpiresSlot s (stallIfDue s n) n ∧ (stallIfDue s n).stallDue n = false := by
  unfold stallIfDue
  split
  · obtain ⟨h, stall⟩ := stallExpires_expiresSlot s n
    exact ⟨h, by rw [State.stallDue, stall]; rfl⟩
  · rename_i h
    exact ⟨.refl s n, by simpa using h⟩

/-- A due check timer is stopped or starts again, and then is not due at the part time at which it expires. -/
theorem checkIfDue_ends {s : State} (h : checksEnd s) (n : Fin 8) : ExpiresSlot s (checkIfDue s n) n
    ∧ (checkIfDue s n).stallDue n = s.stallDue n ∧ (checkIfDue s n).checkDue n = false := by
  unfold checkIfDue
  split
  · rename_i due
    obtain ⟨others, stall, check⟩ := checkExpires_timers s n
    have tb := (kept_checkExpires s n).tb
    have ccu := checkExpires_ccu s n
    have now : (checkExpires s n).now = s.now := by rw [State.now, tb, State.now]
    have time : 1 ≤ s.setup.checkTime := h.resolve_right (fun none => by simp [none n] at due)
    refine ⟨⟨tb, ccu, others, fun _ => .inl (by rwa [State.setup, ccu])⟩, by rw [State.stallDue, stall, now, State.stallDue], ?_⟩
    rw [State.checkDue, now]
    obtain hc | hc := check
    · rw [hc]; rfl
    · rw [hc]; exact timerDue_startTimer time
  · rename_i due
    exact ⟨.refl s n, rfl, by simpa using due⟩

theorem graceIfDue_ends (s : State) (n : Fin 8) : ExpiresSlot s (graceIfDue s n) n
    ∧ (graceIfDue s n).stallDue n = s.stallDue n ∧ (graceIfDue s n).checkDue n = s.checkDue n
    ∧ (graceIfDue s n).graceDue n = false := by
  unfold graceIfDue
  split
  · have timers (m : Fin 8) : (graceExpires s n).timers m = if m = n then { s.timers n with grace := none } else s.timers m := by
      rw [graceExpires, reportEvent_timers, State.timers_setTimers]
    have now : (graceExpires s n).now = s.now := rfl
    refine ⟨.of_check rfl rfl (fun m hm => by rw [timers, if_neg hm]) (.inl (by rw [timers, if_pos rfl])), ?_, ?_, ?_⟩
    · rw [State.stallDue, timers, if_pos rfl, now, State.stallDue]
    · rw [State.checkDue, timers, if_pos rfl, now, State.checkDue]
    · rw [State.graceDue, timers, if_pos rfl]; rfl
  · rename_i due
    exact ⟨.refl s n, rfl, rfl, by simpa using due⟩

/-- The due expiries of a slot leave it quiet: each stops its timer or starts one that is not due, and grace, which advice
starts, is taken last. -/
theorem slotExpiries_ends {s : State} (h : checksEnd s) (n : Fin 8) :
    ExpiresSlot s (slotExpiries s n) n ∧ slotQuiet (slotExpiries s n) n := by
  obtain ⟨stalled, noStall⟩ := stallIfDue_ends s n
  obtain ⟨checked, stall, noCheck⟩ := checkIfDue_ends (stalled.checks h) n
  obtain ⟨graced, stall', check, noGrace⟩ := graceIfDue_ends (checkIfDue (stallIfDue s n) n) n
  exact ⟨(stalled.trans checked).trans graced, by rw [slotExpiries, stall', stall, noStall],
    by rw [slotExpiries, check, noCheck], noGrace⟩

/-- A quiet slot stays quiet while other slots' expiries are taken, and its own change nothing. -/
theorem slotQuiet_slotExpiries {s : State} (h : checksEnd s) {m : Fin 8} (hm : slotQuiet s m) (n : Fin 8) :
    slotQuiet (slotExpiries s n) m := by
  by_cases hmn : m = n
  · subst hmn; exact (slotExpiries_ends h m).2
  · obtain ⟨tb, -, others, -⟩ := (slotExpiries_ends h n).1
    simpa only [slotQuiet, State.stallDue, State.checkDue, State.graceDue, others m hmn, State.now, tb] using hm

/-- The expiries of a list of slots leave each of them quiet. -/
theorem slotQuiet_foldl {l : List (Fin 8)} {s : State} (h : checksEnd s) :
    (l.foldl slotExpiries s).tb = s.tb ∧ (l.foldl slotExpiries s).ccu = s.ccu
      ∧ ∀ m, m ∈ l ∨ slotQuiet s m → slotQuiet (l.foldl slotExpiries s) m := by
  induction l generalizing s with
  | nil => exact ⟨rfl, rfl, fun m hm => hm.resolve_left (List.not_mem_nil)⟩
  | cons n l ih =>
    obtain ⟨slot, quiet⟩ := slotExpiries_ends h n
    obtain ⟨tb, ccu, rest⟩ := ih (slot.checks h)
    refine ⟨tb.trans slot.tb, ccu.trans slot.ccu, fun m hm => rest m ?_⟩
    obtain hm | hm := hm
    · obtain rfl | hm := List.mem_cons.1 hm
      · exact .inr quiet
      · exact .inl hm
    · exact .inr (slotQuiet_slotExpiries h hm n)

/-- Taking the due expiries leaves none due (R34). -/
theorem noneDue_takeDueExpiries {s : State} (h : checksEnd s) : (takeDueExpiries s).noneDue = true := by
  have now : (settleExpiries s).now = s.now := by rw [State.now, (kept_settleExpiries s).tb, State.now]
  have checks : checksEnd (settleExpiries s) := h.imp (fun h => by rwa [settleExpiries_setup])
    (fun h n => by rw [State.checkDue, now, State.timers, settleExpiries_pm]; exact h n)
  obtain ⟨tb, ccu, quiet⟩ := slotQuiet_foldl (l := allSlots) checks
  rw [State.noneDue_iff]
  refine ⟨fun p => ?_, fun n => quiet n (.inl (mem_allSlots n))⟩
  have settled := settleExpiries_not_settleDue s p
  rw [State.settleDue, State.now] at settled ⊢
  rw [takeDueExpiries, tb]
  cases p <;> simpa only [State.position, ccu] using settled

/-- Once the due expiries are taken there are none to take. -/
theorem takeDueExpiries_idem {s : State} (h : checksEnd s) : takeDueExpiries (takeDueExpiries s) = takeDueExpiries s :=
  takeDueExpiries_of_noneDue (noneDue_takeDueExpiries h)

/-- An event finds the due expiries taken (R34). -/
theorem whenReleased_takeDueExpiries {s : State} (h : checksEnd s) (hr : s.pif.resetAsserted = false)
    (event : State → State) : whenReleased (takeDueExpiries s) event = whenReleased s event := by
  have released : (takeDueExpiries s).pif.resetAsserted = false := by rw [(kept_takeDueExpiries s).pif, hr]
  simp only [whenReleased, hr, released, Bool.false_eq_true, if_false, takeDueExpiries_idem h]

theorem writeTransaction_takeDueExpiries {s : State} (h : checksEnd s) (hr : s.pif.resetAsserted = false) (w : BusWrite) :
    writeTransaction (takeDueExpiries s) w = writeTransaction s w := by
  rw [writeTransaction_eq, writeTransaction_eq, whenReleased_takeDueExpiries h hr, takeDueExpiries_ports,
    (kept_takeDueExpiries s).pending]

theorem readTransaction_takeDueExpiries {s : State} (h : checksEnd s) (hr : s.pif.resetAsserted = false) (r : ReadResponse) :
    readTransaction (takeDueExpiries s) r = readTransaction s r := by
  have released : (takeDueExpiries s).pif.resetAsserted = false := by rw [(kept_takeDueExpiries s).pif, hr]
  simp only [readTransaction, hr, released, Bool.false_eq_true, if_false, takeDueExpiries_idem h]

/-- Every command but an expiry step or an edge of RST acts on the state in which the due expiries have been taken (R34). -/
theorem exec_takeDueExpiries {c : Instr} {s : State} (h : checksEnd s) (hr : s.pif.resetAsserted = false)
    (he : isExpiry c = false) (hc : isReset c = false) : exec c (takeDueExpiries s) = exec c s := by
  cases hw : writeOf c with
  | some w => rw [exec_of_writeOf hw, exec_of_writeOf hw, writeTransaction_takeDueExpiries h hr]
  | none =>
    cases hread : readOf c with
    | some r => rw [exec_of_readOf hread, exec_of_readOf hread, readTransaction_takeDueExpiries h hr]
    | none =>
      obtain ⟨event, -, taken⟩ := exec_of_event hw hread he hc
      rw [taken, taken, whenReleased_takeDueExpiries h hr]

/-- Settles O6. -/
theorem eventsFindDueTimersExpired : Obligations.EventsFindDueTimersExpired := by
  unfold Obligations.EventsFindDueTimersExpired
  intro ends
  have checks (s : State) (h : ends s) : checksEnd s := by
    obtain ⟨adopted, unadopted⟩ := h
    cases hu : s.ccu.adoptedSetup with
    | some u => exact .inl (by rw [State.setup, hu]; exact adopted u hu)
    | none => exact .inr (fun n => by rw [State.checkDue, unadopted hu n]; rfl)
  have idle {s : State} (due : State → Bool) (event : State → State) (h : due s = false) :
      (.next (expiryStep s due event) : Host.Outcome State Fault Refusal) = .next s :=
    congrArg Host.Outcome.next (expiryStep_of_not_due h event)
  exact ⟨fun s h => noneDue_takeDueExpiries (checks s h),
    fun c s he hc hr h => (exec_takeDueExpiries (checks s h) hr he hc).symm,
    fun s n p => ⟨idle (fun t => t.settleDue p) _, idle (fun t => t.stallDue n) _, idle (fun t => t.checkDue n) _,
      idle (fun t => t.graceDue n) _⟩⟩

end Sys2Proof.Machine
end

section
/-! PROOF. A TICK is the REFCLK periods that remain to it (O5). -/

namespace Sys2Proof.Machine

/-- The state with another prescaler count and another queue of waiting commands; no timer is measured by either (R33, R34). -/
def State.waiting (s : State) (count : Nat) (q : List Instr) : State :=
  { s with tb := { s.tb with count := count }, pending := q }

theorem exec_tick {s : State} (hs : s.takesEvents = true) : exec .tick s = .next (tickTime s) :=
  congrArg Host.Outcome.next (whenReleased_of_takesEvents hs _)

theorem exec_refclkPeriod {s : State} (hs : s.takesEvents = true) : exec .refclkPeriod s = .next (refclkTime s) :=
  congrArg Host.Outcome.next (whenReleased_of_takesEvents hs _)

/-- A slot after a tick: its mark is set when its silence has reached 2,000 ms (R61; notes/assumptions/14.md). -/
theorem afterTick_eq (x : Slot) (now : Tick) : x.afterTick now = { x with longSilence := x.longSilence ||
    (x.state.unlanded && decide (2000 ≤ (now - x.lastFill.getD x.issueTick).toNat)) } := by
  have silence : interval (x.lastFill.getD x.issueTick) now = (now - x.lastFill.getD x.issueTick).toNat := rfl
  rw [Slot.afterTick, Config.longestGap, silence]
  split
  · rename_i h
    rw [h, Bool.or_true]
  · rename_i h
    rw [Bool.eq_false_iff.2 h, Bool.or_false]

theorem tickTime_slot (s : State) (n : Fin 8) : (tickTime s).slot n = (s.slot n).afterTick (s.tb.partTime + 1) := by
  simp [tickTime, State.slot]

/-- The REFCLK periods from a count up to P, waiting in front of an empty queue, are a tick (R33). -/
theorem run_refclkPeriods {s : State} (hs : s.takesEvents = true) {left count : Nat}
    (h : count + left = s.tb.prescaler) :
    Host.Core.run Sys2Proof.core (left + 1) (s.waiting count (List.replicate (left + 1) .refclkPeriod)) =
      .next (tickTime (s.waiting count [])) := by
  induction left generalizing count with
  | zero =>
    have period : step (s.waiting count [.refclkPeriod]) = .next (tickTime (s.waiting count [])) :=
      (exec_refclkPeriod (s := s.waiting count []) hs).trans
        (congrArg Host.Outcome.next (if_neg (by simp [State.waiting]; omega)))
    exact run_succ_of_step period 0
  | succ left ih =>
    have period : step (s.waiting count (List.replicate (left + 2) .refclkPeriod)) =
        .next (s.waiting (count + 1) (List.replicate (left + 1) .refclkPeriod)) :=
      (exec_refclkPeriod (s := s.waiting count (List.replicate (left + 1) .refclkPeriod)) hs).trans
        (congrArg Host.Outcome.next (if_pos (by simp [State.waiting]; omega)))
    rw [run_succ_of_step period, ih (by omega)]
    rfl

/-- Settles O5. -/
theorem refclkPeriodsMakeTheTick : Obligations.RefclkPeriodsMakeTheTick := by
  unfold Obligations.RefclkPeriodsMakeTheTick
  intro s hs
  rw [exec_tick hs, exec_refclkPeriod hs]
  refine ⟨⟨_, rfl, rfl, rfl, fun n => by rw [tickTime_slot, afterTick_eq]⟩,
    fun below => congrArg Host.Outcome.next (if_pos below),
    fun reached => congrArg Host.Outcome.next (if_neg (Nat.not_lt.2 reached)), fun below empty => ?_⟩
  have periods : s.tb.prescaler + 1 - s.tb.count = (s.tb.prescaler - s.tb.count) + 1 := by omega
  have same : s.waiting s.tb.count [] = s := by rw [← empty]; rfl
  have run := run_refclkPeriods hs (left := s.tb.prescaler - s.tb.count) (count := s.tb.count) (by omega)
  rw [same] at run
  rw [periods]
  exact run

end Sys2Proof.Machine
end

section
/-! PROOF. Writes observed: the capture shadow's bytes (O22), the write that hands nothing to any block (O36), and the fill write
(O37). -/

namespace Sys2Proof.Machine

/-! ### The capture shadow (R133) -/

/-- The byte that a lane leaves where `old` stood: its data if it is strobed, `old` if it is not or there is no lane (R21). -/
def laneByte (lane : Option Lane) (old : Byte) : Byte :=
  match lane with
  | some lane => if lane.strobe = true then lane.data else old
  | none => old

/-- The strobed bytes of lanes from address `addr` on, written at their offsets from `start`: each offset reads its lane's
byte. -/
theorem readByte_strobedFrom {start addr : Nat} (hl : start ≤ addr) (lanes : List Lane) {m : ByteStore}
    (hm : ByteStore.wf m = true) (a : Nat) : readByte (writeBytes m (runFrom start (strobedFrom addr lanes))) a =
      if addr ≤ start + a then laneByte lanes[start + a - addr]? (readByte m a) else readByte m a := by
  induction lanes generalizing addr m with
  | nil => simp [strobedFrom, runFrom, writeBytes, laneByte]
  | cons lane rest ih =>
    have after : readByte (writeBytes m (runFrom start (strobedFrom addr (lane :: rest)))) a =
        if addr + 1 ≤ start + a then laneByte rest[start + a - (addr + 1)]? (readByte m a)
        else if addr = start + a ∧ lane.strobe = true then lane.data else readByte m a := by
      rw [strobedFrom]
      split
      · rename_i strobe
        have written : readByte (writeByte m (addr - start) lane.data) a =
            if addr = start + a then lane.data else readByte m a := by
          rw [readByte_writeByte hm]
          exact if_congr (by omega) rfl rfl
        refine (ih (Nat.le_succ_of_le hl) (wf_writeByte hm (addr - start) lane.data)).trans ?_
        rw [written]
        split
        · rw [if_neg (by omega)]
        · simp [strobe]
      · rename_i strobe
        rw [ih (Nat.le_succ_of_le hl) hm]
        simp [strobe]
    rw [after]
    rcases Nat.lt_trichotomy (start + a) addr with h | h | h
    · rw [if_neg (by omega), if_neg (by omega), if_neg (by omega)]
    · rw [if_neg (by omega), if_pos h.ge, h, Nat.sub_self]
      simp [laneByte]
    · have next : start + a - addr = start + a - (addr + 1) + 1 := by omega
      rw [if_pos (Nat.succ_le_of_lt h), if_pos h.le, next, List.getElem?_cons_succ]

/-- Settles O22. -/
theorem captureShadowHoldsTheStrobedBytes : Obligations.CaptureShadowHoldsTheStrobedBytes := by
  unfold Obligations.CaptureShadowHoldsTheStrobedBytes
  intro s w a hm hl i
  exact readByte_strobedFrom hl w.lanes hm a

/-! ### Runs that hand on nothing (R21, R23) -/

/-- An observation none of whose bytes falls in an area where a run has an effect leaves the state as it was (R19). -/
theorem handRuns_of_idle {take : Area → List (Nat × Byte) → State → State} {s : State} (fuel : Nat) {bytes : List (Nat × Byte)}
    (h : ∀ ab ∈ bytes, ∀ run, take (s.areaAt ab.1) run s = s) : handRuns take fuel bytes s = s := by
  induction fuel generalizing bytes with
  | zero => rfl
  | succ fuel ih =>
    cases bytes with
    | nil => rfl
    | cons ab rest =>
      rw [handRuns, h ab List.mem_cons_self]
      exact ih (fun cd hcd => h cd (List.mem_cons_of_mem ab ((List.dropWhile_sublist _).subset hcd)))

/-- Settles O36. -/
theorem plainWriteIsForwardedAlone : Obligations.PlainWriteIsForwardedAlone := by
  unfold Obligations.PlainWriteIsForwardedAlone
  intro s w hs idle
  refine congrArg Host.Outcome.next ((writeTransaction_of_takesEvents hs w).trans (handRuns_of_idle _ fun ab hab run => ?_))
  have area : (forwardWrite s w).areaAt ab.1 = s.areaAt ab.1 := rfl
  have fills : (forwardWrite s w).fillMatches w.tag = s.fillMatches w.tag := rfl
  have idle := idle ab hab
  rw [area, fills]
  cases h : s.areaAt ab.1 <;> rw [h] at idle
  case control => exact idle.elim
  case request => exact idle.elim
  case window n => rw [takeWriteRun, idle]; rfl
  all_goals rfl

/-! ### Fill writes (R38 to R40) -/

/-- A write that falls in a slot's window is handed to STU if its tag matched the fill match, with its low offset and end
(R23, R24). -/
theorem writeTransaction_window {s : State} {w : BusWrite} {n : Fin 8} (h : s.writeFallsIn w (.window n) = true) :
    writeTransaction s w = if s.fillMatches w.tag = true then
      fillObservation (forwardWrite s w) n (runLow (strobedBytes w) - (s.slot n).base) (runEnd (strobedBytes w) - (s.slot n).base)
    else forwardWrite s w := writeTransaction_of_writeFallsIn h

theorem Slot.counts_iff (x : Slot) (low : Nat) : x.counts low = true ↔ ∀ len, x.length = some len → low < len := by
  unfold Slot.counts
  cases x.length <;> simp

theorem Slot.limitedEnd_eq (x : Slot) (fillEnd : Nat) : x.limitedEnd fillEnd = min fillEnd (x.length.getD fillEnd) := by
  unfold Slot.limitedEnd
  cases x.length <;> simp

theorem SlotState.not_unlanded_of_hasLanded {x : SlotState} (h : x.hasLanded = true) : x.unlanded = false := by
  cases x <;> simp_all [SlotState.hasLanded, SlotState.unlanded]

/-- Settles O37. -/
theorem fillWriteMovesTheSlot : Obligations.FillWriteMovesTheSlot := by
  unfold Obligations.FillWriteMovesTheSlot
  intro s n w h x low fillEnd limited gap stall check moved counted
  have taken : exec (.fillWrite w) s = .next (if s.fillMatches w.tag = true then fillObservation (forwardWrite s w) n low fillEnd
      else forwardWrite s w) := congrArg Host.Outcome.next (writeTransaction_window h)
  have filled : x.filled fillEnd s.now s.setup.gapLimit = moved := by
    simp only [Slot.filled, Slot.limitedEnd_eq]
    rfl
  have timed : timersAfterFill (s.timers n) (decide (x.state = .issued)) s.now s.setup = { s.timers n with
      stall := some stall, check := if x.state = .issued then some check else (s.timers n).check } := by
    simp only [timersAfterFill, decide_eq_true_eq]
    rfl
  have after : countedFill (forwardWrite s w) n fillEnd = counted := by
    have table : countedFill (forwardWrite s w) n fillEnd =
        ((forwardWrite s w).setSlot n (x.filled fillEnd s.now s.setup.gapLimit)).setTimers n
          (timersAfterFill (s.timers n) (decide (x.state = .issued)) s.now s.setup) := rfl
    rw [table, filled, timed]
    rfl
  have record : counted.slot n = moved := State.slot_setSlot_same s n moved
  refine ⟨fun fills unlanded counts => ?_, fun idle => ?_⟩
  · have result : exec (.fillWrite w) s = .next (landIfFull counted n) := by
      have hc : (((forwardWrite s w).slot n).state.unlanded && ((forwardWrite s w).slot n).counts low) = true :=
        Bool.and_eq_true_iff.2 ⟨unlanded, (Slot.counts_iff x low).2 counts⟩
      rw [taken, if_pos fills, fillObservation_eq, if_pos hc, after]
    rw [result, landIfFull, record]
    exact ⟨fun short => congrArg Host.Outcome.next (if_neg short), fun full => congrArg Host.Outcome.next (if_pos full)⟩
  · have alone : fillObservation (forwardWrite s w) n low fillEnd = forwardWrite s w ∨ s.fillMatches w.tag = false := by
      obtain fills | landed | ⟨len, hlen, beyond⟩ := idle
      · exact .inr fills
      · have notUnlanded : ¬ x.state.unlanded = true := by simp [SlotState.not_unlanded_of_hasLanded landed]
        exact .inl (if_neg (fun h => notUnlanded (Bool.and_eq_true_iff.1 h).1))
      · have uncounted : ¬ x.counts low = true := fun h => Nat.not_lt.2 beyond ((Slot.counts_iff x low).1 h len hlen)
        exact .inl (if_neg (fun h => uncounted (Bool.and_eq_true_iff.1 h).2))
    rw [taken]
    obtain h | h := alone
    · rw [h, ite_self]; rfl
    · rw [h, if_neg Bool.false_ne_true]; rfl

end Sys2Proof.Machine
end

section
/-! PROOF. Drain reads, of an unlanded slot (O40) and of a landed one (O41). -/

namespace Sys2Proof.Machine

/-- A drain read that falls in one slot's window is handed to STU with its end, and returned as it came (R17, R25). -/
theorem exec_drainRead_window {s : State} {r : ReadResponse} {n : Fin 8} (h : s.readFallsIn r (.window n) = true)
    (hd : s.drainMatches r.tag = true) : exec (.drainRead r) s =
      .next (returnRead (drainObservation s n (r.addr.toNat + r.data.length - (s.slot n).base)) r r.data) :=
  congrArg Host.Outcome.next (readTransaction_of_window h hd (kept_drainObservation s n _).pif)

/-- Settles O40. -/
theorem drainReadOfAnUnlandedSlot : Obligations.DrainReadOfAnUnlandedSlot := by
  unfold Obligations.DrainReadOfAnUnlandedSlot
  intro s n r h hd unlanded x drainEnd early moved
  have ok : r.status = .ok := ((State.readFallsIn_iff _ _ _).1 h).2.1
  have observed : drainObservation s n drainEnd = drainUnlanded s n drainEnd := if_pos unlanded
  rw [exec_drainRead_window h hd, observed, returnRead, ok]
  by_cases he : early
  · have marked : moved = { x with drainMark := max x.drainMark (min drainEnd x.fillMark), earlyUnderrun := true } := by
      simp only [moved, decide_eq_true he.1, Bool.or_true]
    have raised : drainUnlanded s n drainEnd = reportEvent (s.setSlot n moved) .underrun .underruns := by
      rw [marked]; exact if_pos he
    rw [raised]
    simp only [if_pos he]
    rfl
  · have marked : moved = { x with drainMark := max x.drainMark (min drainEnd x.fillMark) } := by
      have stays : (x.earlyUnderrun || decide (x.fillMark < drainEnd)) = x.earlyUnderrun := by
        cases hx : x.earlyUnderrun
        · simpa using fun past => he ⟨past, hx⟩
        · rfl
      simp only [moved, stays]
    have quiet : drainUnlanded s n drainEnd = s.setSlot n moved := by
      rw [marked]; exact if_neg he
    rw [quiet]
    simp only [if_neg he]
    rfl

/-! ### Landed slots (R47 to R49) -/

/-- The consumption underrun test finds an unlanded slot other than the one that was freed (R48). -/
theorem unlandedHolding_freeSlot (s : State) (n : Fin 8) (segment : Nat) :
    ((freeSlot s n).unlandedHolding segment).isSome = true ↔
      ∃ k : Fin 8, k ≠ n ∧ (s.slot k).state.unlanded = true ∧ (s.slot k).segment = segment := by
  rw [← Option.ne_none_iff_isSome, Ne, unlandedHolding_eq_none, not_forall]
  refine exists_congr fun k => ?_
  rw [not_not]
  by_cases hk : k = n
  · simp [hk, Slot.empty, SlotState.unlanded]
  · simp [hk, freeSlot_slot_other s hk]

/-- A slot consumed: freed, with UNDERRUN when an unlanded slot holds the next segment (R48). -/
theorem consume_eq_underrun (s : State) (n : Fin 8) : consume s n =
    if (s.slot n).segment < 2 ^ 32 - 1 ∧ ∃ k : Fin 8, k ≠ n ∧ (s.slot k).state.unlanded = true
      ∧ (s.slot k).segment = (s.slot n).segment + 1 then reportEvent (freeSlot s n) .underrun .underruns
    else freeSlot s n := by
  rw [consume_eq]
  exact if_congr (and_congr_right fun _ => unlandedHolding_freeSlot s n _) rfl rfl

/-- What is consumed does not depend on the record's marks, only on its segment (R48, R54). -/
theorem consume_setSlot {s : State} {n : Fin 8} {x : Slot} (hx : x.segment = (s.slot n).segment) :
    consume (s.setSlot n x) n = consume s n := by
  have freed : freeSlot (s.setSlot n x) n = freeSlot s n := by
    rw [freeSlot, freeSlot, State.setSlot_setSlot]; rfl
  rw [consume_eq, consume_eq, State.slot_setSlot_same, hx, freed]

/-- A rung's dwell-time tally grown (R49, R150). -/
theorem growTally_dwellTime (s : State) {rung : Nat} (h : rung < 12) (k : Nat) : growTally s (.dwellTime rung) k =
    { s with eru := { s.eru with tallies := { s.eru.tallies with
      dwellTime := s.eru.tallies.dwellTime.set rung (min (s.eru.tallies.dwellTime[rung] + k) (2 ^ 32 - 1)) } } } := by
  rw [growTally, growTallies, dif_pos h]
  rfl

/-- A drain observation past the drain mark of a landed slot: its mark moved and its rung's dwell time credited, and the slot
consumed when the mark is the length (R47 to R49). -/
theorem drainLanded_of_past {s : State} {n : Fin 8} {drainEnd mark len : Nat} (hl : (s.slot n).length = some len)
    (hm : mark = min drainEnd len) (past : (s.slot n).drainMark < mark) : drainLanded s n drainEnd =
      let credited := growTally (s.setSlot n { s.slot n with drainMark := mark, state := .draining }) (.dwellTime (s.slot n).rung)
        ((s.slot n).duration * mark / len - (s.slot n).duration * (s.slot n).drainMark / len)
      if mark = len then consume credited n else credited := by
  subst hm
  simp only [drainLanded, hl, Option.getD_some, if_neg (Nat.not_le.2 past), Slot.played, Option.some.injEq]

/-- Settles O41. -/
theorem drainReadOfALandedSlot : Obligations.DrainReadOfALandedSlot := by
  unfold Obligations.DrainReadOfALandedSlot
  intro s n r len hr h hd landed hl x m times credit credited underrun answered
  have ok : r.status = .ok := ((State.readFallsIn_iff _ _ _).1 h).2.1
  have observed : drainObservation s n (r.addr.toNat + r.data.length - x.base)
      = drainLanded s n (r.addr.toNat + r.data.length - x.base) :=
    (if_neg (by simp [SlotState.not_unlanded_of_hasLanded landed])).trans (if_pos landed)
  rw [exec_drainRead_window h hd, observed, returnRead, ok]
  refine ⟨fun short => ?_, fun past below => ?_, fun past full => ?_⟩
  · have alone : drainLanded s n (r.addr.toNat + r.data.length - x.base) = s :=
      if_pos (by rw [hl]; exact short)
    rw [alone]
  · rw [drainLanded_of_past hl rfl past]
    dsimp only
    rw [if_neg below.ne, growTally_dwellTime _ hr]
    rfl
  · have commute (k : Nat) (y : Slot) : growTally (s.setSlot n y) (.dwellTime x.rung) k =
        (growTally s (.dwellTime x.rung) k).setSlot n y := rfl
    have consumed : drainLanded s n (r.addr.toNat + r.data.length - x.base) =
        if underrun then reportEvent (freeSlot (growTally s (.dwellTime x.rung) credit) n) .underrun .underruns
        else freeSlot (growTally s (.dwellTime x.rung) credit) n := by
      rw [drainLanded_of_past hl rfl past]
      dsimp only
      rw [if_pos full, commute, consume_setSlot (by rfl)]
      exact consume_eq_underrun _ n
    rw [consumed, growTally_dwellTime s hr]
    by_cases hu : underrun
    · simp only [if_pos hu]
      rfl
    · simp only [if_neg hu]
      rfl

end Sys2Proof.Machine
end

section
/-! PROOF. Read responses: where data are substituted (O45), the report's snapshot (O42) and the verdict halves (O44). -/

namespace Sys2Proof.Machine

/-! ### Where a page offset falls (section 2.2) -/

/-- Below the report area the page holds the record positions and plain memory. -/
theorem pageArea_low {offset : Nat} (h : offset < 0x400) :
    (∃ p, pageArea offset = .control p) ∨ pageArea offset = .plain := by
  simp only [pageArea, if_pos h]
  split_ifs <;> simp

theorem pageArea_report {offset : Nat} (hl : 0x400 ≤ offset) (hh : offset < 0x800) : pageArea offset = .report := by
  simp (disch := omega) only [pageArea, if_neg, if_pos]

theorem pageArea_plain {offset : Nat} (hl : 0x800 ≤ offset) (hh : offset < 0xC00) : pageArea offset = .plain := by
  simp (disch := omega) only [pageArea, if_neg, if_pos]

/-- Above, the page holds the tickets' entries, each a request half and a verdict half. -/
theorem pageArea_ticket {offset : Nat} (h : 0xC00 ≤ offset) : pageArea offset =
    if offset % 64 < 32 then .request (Fin.ofNat 16 ((offset - 0xC00) / 64))
    else .verdict (Fin.ofNat 16 ((offset - 0xC00) / 64)) := by
  simp (disch := omega) only [pageArea, if_neg]

theorem pageArea_eq_report {offset : Nat} : pageArea offset = .report ↔ 0x400 ≤ offset ∧ offset < 0x800 := by
  refine ⟨fun h => ?_, fun h => pageArea_report h.1 h.2⟩
  rcases Nat.lt_or_ge offset 0x400 with low | low
  · obtain ⟨p, hp⟩ | hp := pageArea_low low <;> simp [hp] at h
  rcases Nat.lt_or_ge offset 0x800 with high | high
  · exact ⟨low, high⟩
  rcases Nat.lt_or_ge offset 0xC00 with plain | ticket
  · simp [pageArea_plain high plain] at h
  · rw [pageArea_ticket ticket] at h
    split at h <;> simp at h

theorem areaAt_of_inPage {s : State} {a : Nat} (h : s.inPage a = true) : s.areaAt a = pageArea (a % 4096) := if_pos h

/-- Off the page a byte is in a window or in no unit (R20, R24). -/
theorem areaAt_off_page {s : State} {a : Nat} (h : s.inPage a = false) :
    (∃ n, s.areaAt a = .window n) ∨ s.areaAt a = .outside := by
  simp only [State.areaAt, h, Bool.false_eq_true, if_false]
  cases s.windowAt a <;> simp

/-- The report area is the page's offsets 0x400..0x7FF (R20). -/
theorem areaAt_eq_report {s : State} {a : Nat} :
    s.areaAt a = .report ↔ s.inPage a = true ∧ 0x400 ≤ a % 4096 ∧ a % 4096 < 0x800 := by
  cases hp : s.inPage a with
  | false => obtain ⟨n, h⟩ | h := areaAt_off_page hp <;> simp [h]
  | true => simp [areaAt_of_inPage hp, pageArea_eq_report]

/-- What falls on the page depends on the page base alone (R20). -/
theorem areaAt_congr_page {s t : State} (hp : t.pif = s.pif) {a : Nat} (h : s.inPage a = true) : t.areaAt a = s.areaAt a := by
  have ht : t.inPage a = true := by rw [← h, State.inPage, State.inPage, hp]
  rw [areaAt_of_inPage h, areaAt_of_inPage ht]

/-- A byte of a verdict half lies on the page. -/
theorem inPage_of_verdict {s : State} {a : Nat} {k : Fin 16} (h : s.areaAt a = .verdict k) : s.inPage a = true := by
  by_contra hp
  obtain ⟨n, hw⟩ | hw := areaAt_off_page (Bool.eq_false_iff.2 hp) <;> simp [hw] at h

/-! ### The byte a read carries (R29 to R31) -/

theorem substitutedByte_report {s : State} {a : Nat} (h : s.areaAt a = .report) (b : Byte) :
    substitutedByte s a b = s.reportByte (a % 4096) := by simp [substitutedByte, h]

theorem substitutedByte_verdict {s : State} {a : Nat} {k : Fin 16} (h : s.areaAt a = .verdict k) (b : Byte) :
    substitutedByte s a b = verdictByte (s.ticket k).verdict (a % 64) := by simp [substitutedByte, h]

/-- Control area, plain memory and request halves are not substituted (R22, R31). -/
theorem substitutedByte_unsubstituted {s : State} {a : Nat}
    (h : a % 4096 < 0x400 ∨ (0x800 ≤ a % 4096 ∧ a % 64 < 32) ∨ (0x800 ≤ a % 4096 ∧ a % 4096 < 0xC00)) (b : Byte) :
    substitutedByte s a b = b := by
  cases hp : s.inPage a with
  | false => exact substitutedByte_of_not_inPage hp b
  | true =>
    have area := areaAt_of_inPage hp
    rcases Nat.lt_or_ge (a % 4096) 0x400 with low | low
    · obtain ⟨p, hc⟩ | hc := pageArea_low low <;> simp [substitutedByte, area, hc]
    rcases Nat.lt_or_ge (a % 4096) 0xC00 with plain | ticket
    · simp [substitutedByte, area, pageArea_plain (offset := a % 4096) (by omega) plain]
    · have request := pageArea_ticket ticket
      rw [if_pos (by omega)] at request
      simp [substitutedByte, area, request]

theorem getElem?_addressed (a : Nat) (data : List Byte) (i : Nat) :
    (addressed a data)[i]? = data[i]?.map (fun b => (a + i, b)) := by
  induction data generalizing a i with
  | nil => rfl
  | cons b rest ih =>
    cases i with
    | zero => rfl
    | succ i => simp [addressed, ih, Nat.add_assoc, Nat.add_comm 1]

/-- Each byte returned is the one that a read carries at its address. -/
theorem getElem?_substitutedData (s : State) (r : ReadResponse) (i : Nat) :
    (substitutedData s r)[i]? = r.data[i]?.map (fun b => substitutedByte s (r.addr.toNat + i) b) := by
  rw [substitutedData, List.getElem?_map, getElem?_addressed, Option.map_map]
  rfl

/-! ### What a read response leaves, and what is returned -/

/-- A read response is returned as it came, or with the data substituted on a state with the same page (R17, R27, R32). -/
theorem readTransaction_returned (s : State) (r : ReadResponse) : ∃ t d, readTransaction s r = returnRead t r d
    ∧ (d = r.data ∨ t.pif = s.pif ∧ d = substitutedData t r) := by
  unfold readTransaction readReleased
  split
  · exact ⟨_, _, rfl, .inl rfl⟩
  · split
    · exact ⟨_, _, rfl, .inl rfl⟩
    · exact ⟨_, _, rfl, .inr ⟨((kept_takeDueExpiries s).trans (kept_observeRead _ r)).pif, rfl⟩⟩

/-- A read response with status OK received with RST released, taken with nothing before it (R25, R29, R31). -/
theorem readTransaction_of_ok {s : State} {r : ReadResponse} (hs : s.takesEvents = true) (ok : r.status = .ok)
    (whole : r.spansReset = false) :
    readTransaction s r = returnRead (observeRead s r) r (substitutedData (observeRead s r) r) := by
  rw [readTransaction_of_takesEvents hs, readReleased, if_neg (by simp [ok, whole])]

/-- Settles O45. -/
theorem substitutionStaysInItsAreas : Obligations.SubstitutionStaysInItsAreas := by
  unfold Obligations.SubstitutionStaysInItsAreas
  refine ⟨fun s t r c hc ht => ?_, fun s r c hc hs failed => ?_⟩
  · rw [exec_of_readOf hc] at ht
    cases ht
    obtain ⟨t, d, returned, data⟩ := readTransaction_returned s r
    refine ⟨d, by rw [returned]; rfl, ?_, fun i elsewhere => ?_⟩
    · obtain rfl | ⟨-, rfl⟩ := data
      · rfl
      · exact length_substitutedData t r
    · obtain rfl | ⟨pif, rfl⟩ := data
      · rfl
      · have same (b : Byte) : substitutedByte t (r.addr.toNat + i) b = b := by
          obtain off | within := elsewhere
          · exact substitutedByte_of_not_inPage (by rw [← off, State.inPage, State.inPage, pif]) b
          · exact substitutedByte_unsubstituted within b
        simp [getElem?_substitutedData, same]
  · rw [exec_of_readOf hc, readTransaction_of_takesEvents hs, readReleased, if_pos failed]
    rfl

/-! ### The snapshot (R29, R153) -/

/-- A drain changes neither the tickets nor the snapshot (R46 to R49). -/
theorem takeReadRun_keeps (drains : Bool) (area : Area) (run : List (Nat × Byte)) (s : State) :
    (takeReadRun drains area run s).vu = s.vu ∧ (takeReadRun drains area run s).eru.snapshot = s.eru.snapshot := by
  have consumed (t : State) (n : Fin 8) : (consume t n).vu = t.vu ∧ (consume t n).eru.snapshot = t.eru.snapshot := by
    rw [consume_eq]
    split <;> exact ⟨rfl, rfl⟩
  have drained (n : Fin 8) (drainEnd : Nat) : (drainObservation s n drainEnd).vu = s.vu
      ∧ (drainObservation s n drainEnd).eru.snapshot = s.eru.snapshot := by
    unfold drainObservation
    split
    · unfold drainUnlanded
      dsimp only
      split <;> exact ⟨rfl, rfl⟩
    · split
      · unfold drainLanded
        dsimp only
        split
        · exact ⟨rfl, rfl⟩
        · split
          · exact consumed _ n
          · exact ⟨rfl, rfl⟩
      · exact ⟨rfl, rfl⟩
  cases area
  case window n =>
    rw [takeReadRun]
    split
    · exact drained n _
    · exact ⟨rfl, rfl⟩
  all_goals exact ⟨rfl, rfl⟩

/-- Of tickets and snapshot a read response changes the snapshot alone, and that when it touches the header line. -/
theorem observeRead_keeps (s : State) (r : ReadResponse) : (observeRead s r).vu = s.vu
    ∧ (observeRead s r).eru.snapshot = (snapshotIfHeader s (addressed r.addr.toNat r.data)).eru.snapshot := by
  have runs : (observeRead s r).vu = (snapshotIfHeader s (addressed r.addr.toNat r.data)).vu
      ∧ (observeRead s r).eru.snapshot = (snapshotIfHeader s (addressed r.addr.toNat r.data)).eru.snapshot :=
    handRuns_keeps (P := fun t => t.vu = (snapshotIfHeader s (addressed r.addr.toNat r.data)).vu
        ∧ t.eru.snapshot = (snapshotIfHeader s (addressed r.addr.toNat r.data)).eru.snapshot)
      (fun area run t h => ⟨(takeReadRun_keeps _ area run t).1.trans h.1, (takeReadRun_keeps _ area run t).2.trans h.2⟩)
      _ _ ⟨rfl, rfl⟩
  refine ⟨runs.1.trans ?_, runs.2⟩
  unfold snapshotIfHeader
  split
  · exact takeSnapshot_vu s
  · rfl

theorem takeSnapshot_snapshot (s : State) : (takeSnapshot s).eru.snapshot = reportBytes s := by
  simp only [takeSnapshot]

theorem inHeaderLine_iff (s : State) (a : Nat) :
    s.inHeaderLine a = true ↔ s.inPage a = true ∧ 0x400 ≤ a % 4096 ∧ a % 4096 < 0x440 := by
  simp [State.inHeaderLine, and_assoc]

/-- The bytes of a read touch the header line (R29). -/
theorem any_inHeaderLine_iff (s : State) (r : ReadResponse) :
    (addressed r.addr.toNat r.data).any (fun ab => s.inHeaderLine ab.1) = true ↔
      ∃ i, i < r.data.length ∧ s.inPage (r.addr.toNat + i) = true ∧ 0x400 ≤ (r.addr.toNat + i) % 4096
        ∧ (r.addr.toNat + i) % 4096 < 0x440 := by
  simp only [List.any_eq_true, inHeaderLine_iff]
  constructor
  · rintro ⟨ab, hab, touched⟩
    obtain ⟨i, hi, ha⟩ := mem_addressed hab
    exact ⟨i, hi, by rwa [← ha]⟩
  · rintro ⟨i, hi, touched⟩
    have hlt : i < (addressed r.addr.toNat r.data).length := by rwa [length_addressed]
    exact ⟨_, List.getElem_mem hlt, by rwa [getElem_addressed]⟩

/-- A snapshot that uses up no free value: S is 0 or has its factor from an adopted SETUP (R77; notes/assumptions/7.md). -/
theorem takeSnapshot_eq {s : State} (h : s.ccu.adoptedSetup.isSome = true ∨ lowerEstimate s = 0) :
    takeSnapshot s = { s with eru := { s.eru with snapshot := reportBytes s } } := by
  have used : ¬ (s.ccu.adoptedSetup.isNone = true ∧ lowerEstimate s ≠ 0) := by
    rintro ⟨unadopted, positive⟩
    obtain adopted | zero := h
    · simp [Option.isNone_iff_eq_none.1 unadopted] at adopted
    · exact positive zero
  simp only [takeSnapshot, if_neg used]

theorem length_reportBytes (s : State) : (reportBytes s).length = 1024 := by simp [reportBytes]

/-- Bytes that all fall in one area, one by one. -/
theorem areaAt_of_allFallIn {s : State} {r : ReadResponse} {area : Area}
    (h : s.allFallIn (addressed r.addr.toNat r.data) area = true) {i : Nat} (hi : i < r.data.length) :
    s.areaAt (r.addr.toNat + i) = area := by
  simp only [State.allFallIn, Bool.and_eq_true, List.all_eq_true, decide_eq_true_eq] at h
  have hlt : i < (addressed r.addr.toNat r.data).length := by rwa [length_addressed]
  simpa only [getElem_addressed] using h.2 _ (List.getElem_mem hlt)

theorem data_ne_nil_of_allFallIn {s : State} {r : ReadResponse} {area : Area}
    (h : s.allFallIn (addressed r.addr.toNat r.data) area = true) : 0 < r.data.length := by
  refine List.length_pos_iff.2 fun empty => ?_
  simp [State.allFallIn, empty, addressed] at h

/-- Two bytes of the page: their offsets are as far apart as their addresses. -/
theorem offset_of_inPage {s : State} {a i : Nat} (h : s.inPage a = true) (hi : s.inPage (a + i) = true) :
    (a + i) % 4096 = a % 4096 + i := by
  simp only [State.inPage, decide_eq_true_eq] at h hi
  omega

/-- A read of the report area alone returns a stretch of the snapshot (R29). -/
theorem substitutedData_of_report {s t : State} {r : ReadResponse} (hp : t.pif = s.pif) (size : t.eru.snapshot.length = 1024)
    (h : s.allFallIn (addressed r.addr.toNat r.data) .report = true) :
    substitutedData t r = (t.eru.snapshot.drop (r.addr.toNat % 4096 - 0x400)).take r.data.length := by
  obtain ⟨page, low, -⟩ := areaAt_eq_report.1 (areaAt_of_allFallIn h (data_ne_nil_of_allFallIn h))
  refine List.ext_getElem? fun i => ?_
  rw [getElem?_substitutedData, List.getElem?_take, List.getElem?_drop]
  split
  · rename_i hi
    have area := areaAt_of_allFallIn h hi
    obtain ⟨page_i, -, high⟩ := areaAt_eq_report.1 area
    have offset := offset_of_inPage page page_i
    rw [Nat.add_zero] at offset low
    have inside : r.addr.toNat % 4096 - 0x400 + i < t.eru.snapshot.length := by omega
    have place : (r.addr.toNat + i) % 4096 - 0x400 = r.addr.toNat % 4096 - 0x400 + i := by omega
    rw [List.getElem?_eq_getElem hi, Option.map_some, substitutedByte_report ((areaAt_congr_page hp page_i).trans area),
      State.reportByte, place, List.getElem?_eq_getElem inside, List.getD_eq_getElem _ _ inside]
  · rename_i hi
    rw [List.getElem?_eq_none (Nat.le_of_not_lt hi)]
    rfl

/-- Settles O42. -/
theorem headerLineReadTakesASnapshot : Obligations.HeaderLineReadTakesASnapshot := by
  unfold Obligations.HeaderLineReadTakesASnapshot
  constructor
  · intro s r h factor offset returned size
    obtain ⟨-, ok, -, fallsIn⟩ := (State.readFallsIn_iff _ _ _).1 h
    have taken : exec (.headerLineRead r) s =
        .next (returnRead (snapshotIfHeader s (addressed r.addr.toNat r.data)) r
          (substitutedData (snapshotIfHeader s (addressed r.addr.toNat r.data)) r)) :=
      congrArg Host.Outcome.next (readTransaction_of_readFallsIn h)
    obtain ⟨page, low, -⟩ := areaAt_eq_report.1 (areaAt_of_allFallIn fallsIn (data_ne_nil_of_allFallIn fallsIn))
    rw [Nat.add_zero] at page low
    have data (m : List Byte) (size : m.length = 1024) : substitutedData { s with eru := { s.eru with snapshot := m } } r =
        (m.drop offset).take r.data.length := substitutedData_of_report rfl size fallsIn
    refine ⟨fun header => ?_, fun beyond => ?_⟩
    · have touched : (addressed r.addr.toNat r.data).any (fun ab => s.inHeaderLine ab.1) = true :=
        (any_inHeaderLine_iff s r).2 ⟨0, data_ne_nil_of_allFallIn fallsIn, page, low, by omega⟩
      have snapshot : snapshotIfHeader s (addressed r.addr.toNat r.data) =
          { s with eru := { s.eru with snapshot := reportBytes s } } := (if_pos touched).trans (takeSnapshot_eq factor)
      rw [taken, snapshot, data _ (length_reportBytes s), returnRead, ok]
    · have untouched : ¬ (addressed r.addr.toNat r.data).any (fun ab => s.inHeaderLine ab.1) = true := by
        rw [any_inHeaderLine_iff]
        rintro ⟨i, -, page_i, -, high⟩
        have := offset_of_inPage page page_i
        omega
      have standing : snapshotIfHeader s (addressed r.addr.toNat r.data) = s := if_neg untouched
      rw [taken, standing, data _ size, returnRead, ok]
  · intro s r c hc hs ok whole offset touchesHeader
    have keeps := (observeRead_keeps s r).2
    have pif := (kept_observeRead s r).pif
    refine ⟨_, substitutedData (observeRead s r) r,
      (exec_of_readOf hc s).trans (congrArg Host.Outcome.next (readTransaction_of_ok hs ok whole)),
      ?_, fun touched => ?_, fun untouched => ?_, fun i hi page low high => ?_⟩
    · rw [returnRead, ok]
    · exact keeps.trans ((congrArg (fun t : State => t.eru.snapshot) (if_pos ((any_inHeaderLine_iff s r).2 touched))).trans
        (takeSnapshot_snapshot s))
    · exact keeps.trans (congrArg (fun t : State => t.eru.snapshot) (if_neg (mt (any_inHeaderLine_iff s r).1 untouched)))
    · have area : (observeRead s r).areaAt (r.addr.toNat + i) = .report :=
        (areaAt_congr_page pif page).trans (areaAt_eq_report.2 ⟨page, low, high⟩)
      rw [getElem?_substitutedData, List.getElem?_eq_getElem hi, Option.map_some, substitutedByte_report area]
      rfl

end Sys2Proof.Machine
end

section
/-! PROOF. A read of a verdict half returns the latched verdict (O44). -/

namespace Sys2Proof.Machine

/-! ### The fields of a verdict (section 10.2.1) -/

theorem table_verdict (v : Verdict) : Table 32 60 (verdictFields v) :=
  table_of_rising (by simp [verdictFields, rising])

/-- Byte `i` of the k-th field of a verdict. -/
theorem verdictByte_field {v : Verdict} {offset width value : Nat} (k : Nat)
    (hk : (verdictFields v)[k]? = some ⟨offset, width, value⟩) {i : Nat} (hi : i < width) :
    verdictByte (some v) (offset + i) = byteOf value i :=
  fieldsByte_of_mem (table_verdict v).apart (List.mem_of_getElem? hk) hi

/-- The unused bytes of a verdict half are 0 (R156). -/
theorem verdictByte_unused (v : Verdict) {offset : Nat} (h : (37 ≤ offset ∧ offset < 40) ∨ 60 ≤ offset) :
    verdictByte (some v) offset = 0 := by
  refine fieldsByte_of_uncovered ?_
  simp only [verdictFields, uncovered_cons, uncovered_nil, and_true]
  omega

theorem byteOf_zero {value : Nat} (h : value < 256) : byteOf value 0 = BitVec.ofNatLT value h := by
  apply BitVec.eq_of_toNat_eq
  simpa [byteOf] using Nat.mod_eq_of_lt h

/-- The 32 bytes of the verdict half of a ticket, from ticket offset 32 on (R30). -/
def verdictHalf (v : Option Verdict) : List Byte := (List.range 32).map (fun j => verdictByte v (32 + j))

theorem verdictHalf_getD (v : Option Verdict) {j : Nat} (h : j < 32) :
    (verdictHalf v).getD j 0 = verdictByte v (32 + j) := by
  simp [verdictHalf, List.getD_eq_getElem?_getD, h]

/-- A four-byte field read back from the verdict half (R156). -/
theorem verdictHalf_value {v : Verdict} {offset value : Nat} (k : Nat)
    (hk : (verdictFields v)[k]? = some ⟨32 + offset, 4, value⟩) (h : offset ≤ 28) (fits : value < 2 ^ 32) :
    ((List.range 4).map (fun i => ((verdictHalf (some v)).getD (offset + i) 0).toNat * 256 ^ i)).sum = value := by
  have bytes : (List.range 4).map (fun i => ((verdictHalf (some v)).getD (offset + i) 0).toNat * 256 ^ i) =
      (List.range 4).map (fun i => (byteOf value i).toNat * 256 ^ i) := by
    refine List.map_congr_left fun i hi => ?_
    rw [List.mem_range] at hi
    rw [verdictHalf_getD _ (by omega), ← Nat.add_assoc, verdictByte_field k hk hi]
  have width : (256 : Nat) ^ 4 = 2 ^ 32 := by decide
  rw [bytes, sum_byteOf, width, Nat.mod_eq_of_lt fits]

/-- The first eight bytes of the verdict half: the five one-byte fields, and three unused bytes. -/
theorem verdictHalf_take {v : Verdict} (hc : verdictCodeValue v.code < 256) (hr : v.rung < 256) (hs : v.slot < 256)
    (hh : v.holdUnits < 256) : (verdictHalf (some v)).take 8 = [BitVec.ofNatLT (verdictCodeValue v.code) hc, v.echo,
      BitVec.ofNatLT v.rung hr, BitVec.ofNatLT v.slot hs, BitVec.ofNatLT v.holdUnits hh, 0, 0, 0] := by
  have bytes : (verdictHalf (some v)).take 8 = [verdictByte (some v) 32, verdictByte (some v) 33, verdictByte (some v) 34,
      verdictByte (some v) 35, verdictByte (some v) 36, verdictByte (some v) 37, verdictByte (some v) 38,
      verdictByte (some v) 39] := rfl
  have echo : byteOf v.echo.toNat 0 = v.echo := (byteOf_zero v.echo.isLt).trans (BitVec.ofNatLT_toNat v.echo)
  rw [bytes, verdictByte_field (i := 0) 0 rfl (by decide), verdictByte_field (i := 0) 1 rfl (by decide),
    verdictByte_field (i := 0) 2 rfl (by decide), verdictByte_field (i := 0) 3 rfl (by decide),
    verdictByte_field (i := 0) 4 rfl (by decide), verdictByte_unused v (by decide), verdictByte_unused v (by decide),
    verdictByte_unused v (by decide), byteOf_zero hc, echo, byteOf_zero hr, byteOf_zero hs, byteOf_zero hh]

theorem verdictHalf_drop (v : Verdict) : (verdictHalf (some v)).drop 28 = [0, 0, 0, 0] := by
  have bytes : (verdictHalf (some v)).drop 28 = [verdictByte (some v) 60, verdictByte (some v) 61, verdictByte (some v) 62,
      verdictByte (some v) 63] := rfl
  rw [bytes, verdictByte_unused v (by decide), verdictByte_unused v (by decide), verdictByte_unused v (by decide),
    verdictByte_unused v (by decide)]

/-! ### Reads of a verdict half (R30, R31) -/

/-- A read that falls in one area other than the report takes no snapshot (R29). -/
theorem snapshotIfHeader_of_area {s : State} {r : ReadResponse} {area : Area} (ne : area ≠ .report)
    (h : s.allFallIn (addressed r.addr.toNat r.data) area = true) :
    snapshotIfHeader s (addressed r.addr.toNat r.data) = s := by
  refine if_neg fun touched => ne ?_
  obtain ⟨i, hi, page, low, high⟩ := (any_inHeaderLine_iff s r).1 touched
  exact (areaAt_of_allFallIn h hi).symm.trans (areaAt_eq_report.2 ⟨page, low, by omega⟩)

/-- A read of a verdict half changes nothing but what was returned (R30). -/
theorem readTransaction_of_verdict {s : State} {r : ReadResponse} {k : Fin 16} (h : s.readFallsIn r (.verdict k) = true) :
    readTransaction s r = returnRead s r (substitutedData s r) := by
  have fallsIn := ((State.readFallsIn_iff _ _ _).1 h).2.2.2
  have taken := readTransaction_of_readFallsIn h
  simp only [snapshotIfHeader_of_area (by simp) fallsIn, takeReadRun] at taken
  exact taken

/-- A byte returned from an address in a verdict half is that of the ticket's verdict at the address's offset (R30, R31). -/
theorem getElem?_substitutedData_verdict {s : State} {r : ReadResponse} {k : Fin 16} {i : Nat} (hi : i < r.data.length)
    (h : s.areaAt (r.addr.toNat + i) = .verdict k) :
    (substitutedData s r)[i]? = some (verdictByte (s.ticket k).verdict ((r.addr.toNat + i) % 64)) := by
  rw [getElem?_substitutedData, List.getElem?_eq_getElem hi, Option.map_some, substitutedByte_verdict h]

/-- A read of the whole of a verdict half returns its 32 bytes (R30). -/
theorem substitutedData_eq_verdictHalf {s : State} {r : ReadResponse} {k : Fin 16}
    (h : s.allFallIn (addressed r.addr.toNat r.data) (.verdict k) = true) (start : r.addr.toNat % 64 = 32)
    (size : r.data.length = 32) : substitutedData s r = verdictHalf (s.ticket k).verdict := by
  refine List.ext_getElem? fun i => ?_
  rcases Nat.lt_or_ge i 32 with hi | hi
  · have place : (r.addr.toNat + i) % 64 = 32 + i := by omega
    rw [getElem?_substitutedData_verdict (by omega) (areaAt_of_allFallIn h (by omega)), place]
    simp [verdictHalf, hi]
  · rw [List.getElem?_eq_none (by simpa [size] using hi), List.getElem?_eq_none (by simpa [verdictHalf] using hi)]

/-- While no verdict is latched every byte of the verdict half is 0 (R30). -/
theorem substitutedData_of_no_verdict {s : State} {r : ReadResponse} {k : Fin 16}
    (h : s.allFallIn (addressed r.addr.toNat r.data) (.verdict k) = true) (none : (s.ticket k).verdict = none) :
    ∀ b ∈ substitutedData s r, b = 0 := by
  intro b hb
  obtain ⟨i, hi, rfl⟩ := List.getElem_of_mem hb
  have hlt : i < r.data.length := by simpa using hi
  have byte := getElem?_substitutedData_verdict hlt (areaAt_of_allFallIn h hlt)
  rw [List.getElem?_eq_getElem hi, none] at byte
  exact Option.some.inj byte

/-- Settles O44. -/
theorem verdictHalfReadsTheVerdict : Obligations.VerdictHalfReadsTheVerdict := by
  unfold Obligations.VerdictHalfReadsTheVerdict
  constructor
  · intro s r c k hc h
    obtain ⟨-, ok, -, fallsIn⟩ := (State.readFallsIn_iff _ _ _).1 h
    refine ⟨substitutedData s r, ?_, length_substitutedData s r, substitutedData_of_no_verdict fallsIn,
      fun v latched start size hcode hrung hslot hhold => ?_⟩
    · rw [exec_of_readOf hc, readTransaction_of_verdict h, returnRead, ok]
    · rw [substitutedData_eq_verdictHalf fallsIn start size, latched]
      exact ⟨verdictHalf_take hcode hrung hslot hhold, verdictHalf_value 5 rfl (by decide),
        verdictHalf_value 6 rfl (by decide) v.decisionTick.isLt, verdictHalf_value 7 rfl (by decide) v.deadlineTick.isLt,
        verdictHalf_value 8 rfl (by decide), verdictHalf_value 9 rfl (by decide), verdictHalf_drop v⟩
  · intro s r whole c c' k hc hc' hs ok intact h start size
    obtain ⟨-, ok', -, fallsIn⟩ := (State.readFallsIn_iff _ _ _).1 h
    have pif := (kept_observeRead s r).pif
    have ticket : (observeRead s r).ticket k = s.ticket k := by
      rw [State.ticket, (observeRead_keeps s r).1, State.ticket]
    refine ⟨_, _, substitutedData (observeRead s r) r, substitutedData s whole,
      (exec_of_readOf hc s).trans (congrArg Host.Outcome.next (readTransaction_of_ok hs ok intact)),
      (exec_of_readOf hc' s).trans (congrArg Host.Outcome.next (readTransaction_of_verdict h)),
      by rw [returnRead, ok], by rw [returnRead, ok'], fun i j hi hj same => ?_⟩
    have area : s.areaAt (whole.addr.toNat + j) = .verdict k := areaAt_of_allFallIn fallsIn (by omega)
    have area' : (observeRead s r).areaAt (r.addr.toNat + i) = .verdict k := by
      rw [same, areaAt_congr_page pif (inPage_of_verdict area), area]
    rw [getElem?_substitutedData_verdict hi area', getElem?_substitutedData_verdict (by omega) area, ticket, same]

end Sys2Proof.Machine
end

section
/-! PROOF. What the operations that are not about slots leave of the slot table, and of the configuration it agrees with. -/

namespace Sys2Proof.Machine

/-! ### Operations that leave the slot table alone -/

/-- `t` has the slot table, the timers, the page base and the adopted WINDOWS and ladder of `s`. -/
structure SameTable (s t : State) : Prop where
  stu : t.stu = s.stu
  pm : t.pm = s.pm
  pif : t.pif = s.pif
  windows : t.ccu.adoptedWindows = s.ccu.adoptedWindows
  ladder : t.ccu.adoptedLadder = s.ccu.adoptedLadder

theorem SameTable.refl (s : State) : SameTable s s := ⟨rfl, rfl, rfl, rfl, rfl⟩

theorem SameTable.trans {s t u : State} (h : SameTable s t) (k : SameTable t u) : SameTable s u :=
  ⟨k.stu.trans h.stu, k.pm.trans h.pm, k.pif.trans h.pif, k.windows.trans h.windows, k.ladder.trans h.ladder⟩

theorem SameTable.slot {s t : State} (h : SameTable s t) (n : Fin 8) : t.slot n = s.slot n :=
  congrArg (fun u : Stu => u.slots[n]) h.stu

theorem SameTable.foldl {α : Type} {f : State → α → State} (h : ∀ s a, SameTable s (f s a)) (l : List α) (s : State) :
    SameTable s (l.foldl f s) := by
  induction l generalizing s with
  | nil => exact .refl s
  | cons a l ih => exact (h s a).trans (ih _)

theorem sameTable_takeSnapshot (s : State) : SameTable s (takeSnapshot s) := by
  constructor <;> simp

theorem sameTable_takeSample (s : State) (x : Sample) : SameTable s (takeSample s x) :=
  ⟨takeSample_stu s x, takeSample_pm s x, (kept_takeSample s x).pif, by rw [takeSample_ccu], by rw [takeSample_ccu]⟩

theorem sameTable_noteRung (s : State) (rung : Nat) : SameTable s (noteRung s rung) := by
  unfold noteRung
  dsimp only
  split <;> exact ⟨rfl, rfl, rfl, rfl, rfl⟩

theorem sameTable_setPosition (s : State) (p : Position) (x : PositionState) : SameTable s (s.setPosition p x) := by
  constructor <;> simp

theorem sameTable_reportRejection (s : State) (p : Position) (reason : RejectReason) :
    SameTable s (reportRejection s p reason) := ⟨rfl, rfl, rfl, rfl, rfl⟩

theorem sameTable_rejectRecord (s : State) (p : Position) (reason : RejectReason) : SameTable s (rejectRecord s p reason) :=
  (sameTable_setPosition s p _).trans (sameTable_reportRejection _ p reason)

theorem sameTable_settleExpires (s : State) (p : Position) : SameTable s (settleExpires s p) := by
  unfold settleExpires
  dsimp only
  split
  · exact (sameTable_setPosition s p _).trans (sameTable_reportRejection _ p _)
  · exact sameTable_setPosition s p _

theorem sameTable_settleExpiries (s : State) : SameTable s (settleExpiries s) := by
  obtain ⟨l, k, -, heq⟩ := settleExpiries_eq s
  rw [heq]
  exact (SameTable.foldl sameTable_settleExpires l s).trans ⟨rfl, rfl, rfl, rfl, rfl⟩

theorem sameTable_readinessTest (s : State) : SameTable s (readinessTest s) := by
  rw [readinessTest_eq]; exact ⟨rfl, rfl, rfl, rfl, rfl⟩

/-! ### Directives: every slot freed, or none (R10 to R12) -/

/-- `t` has every slot freed, on the page of `s`, with the WINDOWS of `s` adopted or none (R36, R56). -/
structure Emptied (s t : State) : Prop where
  stu : t.stu = State.reset.stu
  pm : t.pm = State.reset.pm
  pif : t.pif = s.pif
  windows : t.ccu.adoptedWindows = s.ccu.adoptedWindows ∨ t.ccu.adoptedWindows = none

theorem emptied_takeRestart (s : State) : Emptied s (takeRestart s) := ⟨rfl, rfl, rfl, .inr rfl⟩

theorem sameTable_seedEstimates (s : State) (rate : BitVec 32) : SameTable s (seedEstimates s rate) := by
  unfold seedEstimates clearCongestion
  dsimp only
  split
  · rw [reevaluateCongestion_eq]; exact ⟨rfl, rfl, rfl, rfl, rfl⟩
  · split <;> exact ⟨rfl, rfl, rfl, rfl, rfl⟩

theorem sameTable_takeArm (s : State) (entry : Nat) : SameTable s (takeArm s entry) := by
  unfold takeArm; split <;> exact ⟨rfl, rfl, rfl, rfl, rfl⟩

theorem sameTable_takeSuspend (s : State) (entry : Nat) : SameTable s (takeSuspend s entry) := by
  unfold takeSuspend; split <;> exact ⟨rfl, rfl, rfl, rfl, rfl⟩

theorem sameTable_takeResume (s : State) (entry : Nat) : SameTable s (takeResume s entry) := by
  unfold takeResume; split <;> exact ⟨rfl, rfl, rfl, rfl, rfl⟩

/-- TEARDOWN frees every slot, or is ignored (R5, R10). -/
theorem takeTeardown_table (s : State) (entry : Nat) :
    SameTable s (takeTeardown s entry) ∨ Emptied s (takeTeardown s entry) := by
  unfold takeTeardown
  split
  case h_4 => exact .inl ⟨rfl, rfl, rfl, rfl, rfl⟩
  case h_5 => exact .inl ⟨rfl, rfl, rfl, rfl, rfl⟩
  all_goals exact .inr ⟨rfl, rfl, rfl, .inl rfl⟩

/-- A directive entry leaves the slot table alone, or frees every slot. -/
theorem takeEntry_table (s : State) (code : Byte) (argument : BitVec 32) (entry : Nat) :
    SameTable s (takeEntry s code argument entry) ∨ Emptied s (takeEntry s code argument entry) := by
  unfold takeEntry
  split
  · exact .inl (sameTable_takeArm s entry)
  split
  · exact .inl (sameTable_takeSuspend s entry)
  split
  · exact .inl (sameTable_takeResume s entry)
  split
  · exact .inr ⟨rfl, rfl, rfl, .inl rfl⟩
  split
  · exact takeTeardown_table s entry
  split
  · exact .inl (sameTable_seedEstimates s argument)
  split
  · exact .inl ⟨rfl, rfl, rfl, rfl, rfl⟩
  split
  · exact .inl ⟨rfl, rfl, rfl, rfl, rfl⟩
  split
  all_goals exact .inl ⟨rfl, rfl, rfl, rfl, rfl⟩

theorem Emptied.after {s t u : State} (h : Emptied t u) (k : SameTable s t ∨ Emptied s t) : Emptied s u := by
  obtain k | k := k
  · exact ⟨h.stu, h.pm, h.pif.trans k.pif, by rw [← k.windows]; exact h.windows⟩
  · refine ⟨h.stu, h.pm, h.pif.trans k.pif, ?_⟩
    obtain hw | hw := h.windows
    · rw [hw]; exact k.windows
    · exact .inr hw

theorem Emptied.before {s t u : State} (h : Emptied s t) (k : SameTable t u) : Emptied s u :=
  ⟨k.stu.trans h.stu, k.pm.trans h.pm, k.pif.trans h.pif, by rw [k.windows]; exact h.windows⟩

/-- A directive list leaves the slot table alone, or frees every slot. -/
theorem takeEntries_table (s : State) (entry : Nat) (l : List (Byte × BitVec 32)) :
    SameTable s (takeEntries s entry l) ∨ Emptied s (takeEntries s entry l) := by
  induction l generalizing s entry with
  | nil => exact .inl (.refl s)
  | cons x rest ih =>
    obtain ⟨code, argument⟩ := x
    unfold takeEntries
    split
    · exact .inl (.refl s)
    split
    · exact .inr (emptied_takeRestart s)
    · have first := takeEntry_table s code argument entry
      obtain later | later := ih (takeEntry s code argument entry) (entry + 1)
      · exact first.imp (·.trans later) (·.before later)
      · exact .inr (later.after first)

/-! ### Record positions (R135 to R141) -/

/-- `t` has the slot table and the page of `s`, no slot live, and WINDOWS that stand as adopted or are within bounds off the page
(R82, R141). -/
structure Reconfigured (s t : State) : Prop where
  stu : t.stu = s.stu
  pm : t.pm = s.pm
  pif : t.pif = s.pif
  idle : s.anyLive = false
  windows : t.ccu.adoptedWindows = s.ccu.adoptedWindows
    ∨ ∃ w, t.ccu.adoptedWindows = some w ∧ boundsShape s.pageStart w.low w.high = true

/-- What a control-area run can do to the slot table: nothing, free every slot by a directive, or change the ladder or the WINDOWS
while no slot is live. -/
def ControlTable (s t : State) : Prop := SameTable s t ∨ Emptied s t ∨ Reconfigured s t

theorem adoptRecord_table {s : State} {p : Position} (shape : shapePasses s p = true) (idle : inUse s p = false) :
    ControlTable s (adoptRecord s p) := by
  cases p
  case setup => rw [adoptRecord_setup]; exact .inl ⟨rfl, rfl, rfl, rfl, rfl⟩
  case ladder =>
    have tests := sameTable_readinessTest (adoptedState s .ladder)
    exact .inr (.inr ⟨tests.stu, tests.pm, tests.pif, idle, .inl tests.windows⟩)
  case windows =>
    have tests := sameTable_readinessTest (adoptedState s .windows)
    exact .inr (.inr ⟨tests.stu, tests.pm, tests.pif, idle, .inr ⟨_, tests.windows, shape⟩⟩)
  case directive =>
    have adopted : SameTable s (adoptedState s .directive) := ⟨rfl, rfl, rfl, rfl, rfl⟩
    obtain listed | listed := takeEntries_table (adoptedState s .directive) 0 (readEntries s.ccu.shadow)
    · exact .inl (adopted.trans listed)
    · exact .inr (.inl (listed.after (.inl adopted)))

theorem evaluate_table (s : State) (p : Position) : ControlTable s (evaluate s p) := by
  unfold evaluate
  dsimp only
  split
  · exact .inl (sameTable_setPosition s p _)
  split
  · exact .inl (sameTable_setPosition s p _)
  split
  · exact .inl (sameTable_setPosition s p _)
  split
  · exact .inl (sameTable_rejectRecord s p _)
  split
  · exact .inl (sameTable_rejectRecord s p _)
  · rename_i shape idle
    exact adoptRecord_table (by simpa using shape) (by simpa using idle)

/-- A control-area run: the capture of its bytes leaves the table alone, and then the position is evaluated. -/
theorem controlRun_table (s : State) (p : Position) (bytes : List (Nat × Byte)) : ControlTable s (controlRun s p bytes) := by
  obtain h | h | h := evaluate_table (captureBytes s bytes) p
  · exact .inl ⟨h.stu, h.pm, h.pif, h.windows, h.ladder⟩
  · exact .inr (.inl ⟨h.stu, h.pm, h.pif, h.windows⟩)
  · exact .inr (.inr ⟨h.stu, h.pm, h.pif, h.idle, h.windows⟩)

/-! ### Landing (R44, R45) -/

theorem SameTable.setSlot {s t : State} (h : SameTable s t) (n : Fin 8) (x : Slot) :
    SameTable (s.setSlot n x) (t.setSlot n x) :=
  ⟨by simp only [State.setSlot, h.stu], h.pm, h.pif, h.windows, h.ladder⟩

theorem SameTable.freeSlot {s t : State} (h : SameTable s t) (n : Fin 8) : SameTable (freeSlot s n) (freeSlot t n) := by
  refine ⟨?_, ?_, h.pif, h.windows, h.ladder⟩
  · simp only [Machine.freeSlot, State.setSlot, State.setQueue, State.setTimers, h.stu]
  · simp only [Machine.freeSlot, State.setSlot, State.setQueue, State.setTimers, h.pm]

theorem freeSlot_setSlot (s : State) (n : Fin 8) (x : Slot) : freeSlot (s.setSlot n x) n = freeSlot s n := by
  rw [freeSlot, freeSlot, State.setSlot_setSlot]; rfl

/-- A slot consumed is freed, whatever record it had taken before (R48, R54). -/
theorem SameTable.consume {s t : State} {n : Fin 8} {x : Slot} (h : SameTable (s.setSlot n x) t) :
    SameTable (Machine.freeSlot s n) (consume t n) := by
  have freed := h.freeSlot n
  rw [freeSlot_setSlot] at freed
  refine freed.trans ?_
  rw [consume_eq]
  split <;> exact ⟨rfl, rfl, rfl, rfl, rfl⟩

/-- The last step of a landing: nothing for an unread slot; a read one is DRAINING, or freed when it was read to its length. -/
theorem landRead_table (s : State) (n : Fin 8) :
    ((s.slot n).drainMark = 0 ∧ SameTable s (landRead s n))
    ∨ ((s.slot n).drainMark ≠ 0 ∧ some (s.slot n).drainMark ≠ (s.slot n).length
      ∧ SameTable (s.setSlot n { s.slot n with state := .draining }) (landRead s n))
    ∨ SameTable (freeSlot s n) (landRead s n) := by
  unfold landRead
  dsimp only
  split
  · rename_i unread; exact .inl ⟨unread, .refl s⟩
  · rename_i read
    split
    · exact .inr (.inr (SameTable.consume (x := { s.slot n with state := .draining }) ⟨rfl, rfl, rfl, rfl, rfl⟩))
    · rename_i short; exact .inr (.inl ⟨read, short, ⟨rfl, rfl, rfl, rfl, rfl⟩⟩)

/-- A landing up to its last step: table, sample and tally (R44, steps 1 to 5). -/
def landedUncredited (s : State) (n : Fin 8) : State :=
  growTally (takeSample (landedTable s n) (sampleOf (s.slot n) s.now)) .landed 1

theorem land_eq_landRead (s : State) (n : Fin 8) : land s n = landRead (landedUncredited s n) n := land_eq s n

theorem landedUncredited_slot (s : State) (n m : Fin 8) :
    (landedUncredited s n).slot m = if m = n then (s.slot n).landedRecord else s.slot m := by
  rw [landedUncredited, slot_before_credit, landedTable_slot]

/-- What a landing leaves of the slot table: its own record LANDED, or, read already, DRAINING or freed (R44, R45). -/
theorem land_table (s : State) (n : Fin 8) :
    ((s.slot n).drainMark = 0 ∧ SameTable (landedTable s n) (land s n))
    ∨ ((s.slot n).drainMark ≠ 0 ∧ some (s.slot n).drainMark ≠ (s.slot n).length
      ∧ SameTable ((landedTable s n).setSlot n { (s.slot n).landedRecord with state := .draining }) (land s n))
    ∨ SameTable (freeSlot (landedTable s n) n) (land s n) := by
  have sampled : SameTable (landedTable s n) (landedUncredited s n) :=
    (sameTable_takeSample _ _).trans ⟨rfl, rfl, rfl, rfl, rfl⟩
  have record : (landedUncredited s n).slot n = (s.slot n).landedRecord := (landedUncredited_slot s n n).trans (if_pos rfl)
  have steps := landRead_table (landedUncredited s n) n
  rw [record] at steps
  rw [land_eq_landRead]
  obtain ⟨unread, h⟩ | ⟨read, short, h⟩ | h := steps
  · exact .inl ⟨unread, sampled.trans h⟩
  · exact .inr (.inl ⟨read, short, (sampled.setSlot n _).trans h⟩)
  · exact .inr (.inr ((sampled.freeSlot n).trans h))

/-- A drain observation of a landed slot: nothing, its mark moved and the slot DRAINING, or the slot freed at its length (R47). -/
theorem drainLanded_table (s : State) (n : Fin 8) (drainEnd : Nat) :
    let mark := min drainEnd ((s.slot n).length.getD 0)
    drainLanded s n drainEnd = s
    ∨ ((s.slot n).drainMark < mark ∧ some mark ≠ (s.slot n).length
      ∧ SameTable (s.setSlot n { s.slot n with drainMark := mark, state := .draining }) (drainLanded s n drainEnd))
    ∨ SameTable (freeSlot s n) (drainLanded s n drainEnd) := by
  have credited (t : State) (kind : TallyKind) (k : Nat) : SameTable t (growTally t kind k) := ⟨rfl, rfl, rfl, rfl, rfl⟩
  unfold drainLanded
  dsimp only
  split
  · exact .inl rfl
  · rename_i past
    split
    · exact .inr (.inr (SameTable.consume (credited _ _ _)))
    · rename_i short; exact .inr (.inl ⟨Nat.not_le.1 past, short, credited _ _ _⟩)

/-! ### Commands -/

/-- What a command can leave: one constructor for each kind of event (R17, R32 to R34, R142). -/
inductive CommandLeaves (s : State) : State → Prop where
  | idle : CommandLeaves s s
  | write (w : BusWrite) : CommandLeaves s (writeTransaction s w)
  | read (r : ReadResponse) : CommandLeaves s (readTransaction s r)
  | assertReset : CommandLeaves s (assertReset s)
  | releaseReset (asserted : s.pif.resetAsserted = true) (pageBase : BitVec 28) (prescaler : BitVec 16) (revision : Byte) :
      CommandLeaves s (releaseReset s pageBase prescaler revision)
  | tick : CommandLeaves s (whenReleased s tickTime)
  | refclkPeriod : CommandLeaves s (whenReleased s refclkTime)
  | entry (code : Byte) (argument : BitVec 32) (entry : Nat) :
      CommandLeaves s (whenReleased s (fun u => takeEntry u code argument entry))
  | restart : CommandLeaves s (whenReleased s takeRestart)
  | unknownEntry (code : Byte) (entry : Nat) : CommandLeaves s (whenReleased s (fun u => noteDirective u code entry .unknown))
  | settleExpiry (p : Position) : CommandLeaves s (expiryStep s (fun u => u.settleDue p) (fun u => settleExpires u p))
  | stallExpiry (n : Fin 8) : CommandLeaves s (expiryStep s (fun u => u.stallDue n) (fun u => stallExpires u n))
  | checkExpiry (n : Fin 8) : CommandLeaves s (expiryStep s (fun u => u.checkDue n) (fun u => checkExpires u n))
  | graceExpiry (n : Fin 8) : CommandLeaves s (expiryStep s (fun u => u.graceDue n) (fun u => graceExpires u n))

theorem exec_leaves {s t : State} {c : Instr} (ht : exec c s = .next t) : CommandLeaves s t := by
  cases hw : writeOf c with
  | some w =>
    rw [exec_of_writeOf hw] at ht
    cases ht; exact .write w
  | none =>
    cases hr : readOf c with
    | some r =>
      rw [exec_of_readOf hr] at ht
      cases ht; exact .read r
    | none =>
      cases c
      case hardwareReset => cases ht; exact .assertReset
      case rstRelease b p v =>
        cases ht
        split
        · rename_i asserted; exact .releaseReset asserted b p v
        · exact .idle
      case tick => cases ht; exact .tick
      case refclkPeriod => cases ht; exact .refclkPeriod
      case arm entry => cases ht; exact .entry 1 0 entry
      case suspend entry => cases ht; exact .entry 2 0 entry
      case resume entry => cases ht; exact .entry 3 0 entry
      case flush => cases ht; exact .entry 4 0 0
      case teardown entry => cases ht; exact .entry 5 0 entry
      case restart => cases ht; exact .restart
      case seed rate => cases ht; exact .entry 7 rate 0
      case clearTallies => cases ht; exact .entry 8 0 0
      case ack mask => cases ht; exact .entry 9 mask 0
      case enable mask => cases ht; exact .entry 10 mask 0
      case unknownDirective code entry => cases ht; exact .unknownEntry code entry
      case settleExpiry p => cases ht; exact .settleExpiry p
      case stallExpiry n => cases ht; exact .stallExpiry n
      case checkExpiry n => cases ht; exact .checkExpiry n
      case graceExpiry n => cases ht; exact .graceExpiry n
      all_goals simp [writeOf, readOf] at hw hr

/-- A step leaves the state as it is, or takes the waiting command that came first (R17; notes/assumptions/10.md). -/
theorem step_leaves {s t : State} (ht : step s = .next t) :
    t = s ∨ ∃ rest, CommandLeaves { s with pending := rest } t := by
  unfold step at ht
  split at ht
  · cases ht; exact .inl rfl
  · exact .inr ⟨_, exec_leaves ht⟩

end Sys2Proof.Machine
end

section
/-! PROOF. One slot record, and the whole slot table, as single updates leave them (O59). -/

namespace Sys2Proof.Machine

/-! ### The laws of an unlanded and of a landed record -/

/-- An unlanded record and its timers as Chapters 3 and 7 bound them, whether or not its fill mark has reached its length: the law
between a counted fill write, or a declared length, and the landing that it brings (R38 to R43). -/
structure UnlandedLegal (x : Slot) (t : SlotTimers) : Prop where
  unlanded : x.state.unlanded = true
  live : 1 ≤ x.duration ∧ x.duration ≤ 20000 ∧ 1 ≤ x.capacity
  marks : x.drainMark ≤ x.fillMark ∧ x.fillMark ≤ x.capacity
  length : ∀ len, x.length = some len → 1 ≤ len ∧ len ≤ x.capacity ∧ x.fillMark ≤ len
  issued : x.state = .issued → x.fillMark = 0 ∧ x.lastFill = none
  advised : x.advisedRung.isSome = true ↔ x.state = .advised
  checkTimer : t.check.isSome = true ↔ x.state = .filling
  graceTimer : t.grace.isSome = true → x.state = .advised

theorem SlotState.ne_of_unlanded {x : SlotState} (h : x.unlanded = true) : x ≠ .free ∧ x ≠ .landed ∧ x ≠ .draining := by
  cases x <;> simp_all [SlotState.unlanded]

theorem SlotState.hasLanded_of_unlanded {x : SlotState} (h : x.unlanded = true) : x.hasLanded = false := by
  cases x <;> simp_all [SlotState.unlanded, SlotState.hasLanded]

theorem SlotLegal.unlandedLegal {x : Slot} {t : SlotTimers} (h : SlotLegal x t) (hu : x.state.unlanded = true) :
    UnlandedLegal x t :=
  ⟨hu, h.live (SlotState.live_of_unlanded hu), h.marks, h.length, h.issued, h.advised, h.checkTimer, h.graceTimer⟩

/-- An unlanded record whose fill mark has not reached its length is legal (R40). -/
theorem UnlandedLegal.slotLegal {x : Slot} {t : SlotTimers} (h : UnlandedLegal x t) (short : x.length ≠ some x.fillMark) :
    SlotLegal x t := by
  obtain ⟨notFree, notLanded, notDraining⟩ := SlotState.ne_of_unlanded h.unlanded
  exact { h with
    free := fun hs => absurd hs notFree
    live := fun _ => h.live
    unlanded := fun _ => short
    landed := fun hs => by simp [SlotState.hasLanded_of_unlanded h.unlanded] at hs
    landedDrain := fun hs => absurd hs notLanded
    draining := fun hs => absurd hs notDraining }

/-- A landed record is legal when it is filled to its length, and read in part exactly while DRAINING (R40, R44 to R48). -/
theorem slotLegal_of_landed {x : Slot} (landed : x.state.hasLanded = true)
    (live : 1 ≤ x.duration ∧ x.duration ≤ 20000 ∧ 1 ≤ x.capacity) (full : x.length = some x.fillMark)
    (room : 1 ≤ x.fillMark ∧ x.fillMark ≤ x.capacity) (stalled : x.stalled = false) (advised : x.advisedRung = none)
    (unread : x.state = .landed → x.drainMark = 0)
    (read : x.state = .draining → 1 ≤ x.drainMark ∧ x.drainMark < x.fillMark) : SlotLegal x SlotTimers.stopped where
  free h := by rw [h] at landed; nomatch landed
  live _ := live
  marks := by
    refine ⟨?_, room.2⟩
    cases hs : x.state
    case landed => rw [unread hs]; exact Nat.zero_le _
    case draining => exact (read hs).2.le
    all_goals rw [hs] at landed; nomatch landed
  length len hlen := by
    obtain rfl := Option.some.inj (full.symm.trans hlen)
    exact ⟨room.1, room.2, le_refl _⟩
  unlanded h := by rw [SlotState.hasLanded_of_unlanded h] at landed; nomatch landed
  issued h := by rw [h] at landed; nomatch landed
  landed _ := ⟨full, rfl, stalled⟩
  landedDrain := unread
  draining := read
  advised := by
    rw [advised]
    refine ⟨nofun, fun h => ?_⟩
    rw [h] at landed; nomatch landed
  checkTimer := by
    refine ⟨nofun, fun h => ?_⟩
    rw [h] at landed; nomatch landed
  graceTimer h := nomatch h

/-- A record filled to its length as landing leaves it: LANDED while unread, DRAINING once it has been read in part (R44, R45). -/
theorem UnlandedLegal.slotLegal_landed {x : Slot} {t : SlotTimers} (h : UnlandedLegal x t) (full : x.length = some x.fillMark)
    {state : SlotState} {drainMark : Nat} (landed : state.hasLanded = true) (unread : state = .landed → drainMark = 0)
    (read : state = .draining → 1 ≤ drainMark ∧ drainMark < x.fillMark) :
    SlotLegal { x.landedRecord with state := state, drainMark := drainMark } SlotTimers.stopped :=
  slotLegal_of_landed landed h.live full ⟨(h.length _ full).1, h.marks.2⟩ rfl rfl unread read

/-- A landed record read further, but not to its length, is DRAINING (R47). -/
theorem SlotLegal.slotLegal_draining {x : Slot} {t : SlotTimers} (h : SlotLegal x t) (landed : x.state.hasLanded = true)
    {drainMark : Nat} (read : 1 ≤ drainMark ∧ drainMark < x.fillMark) :
    SlotLegal { x with state := .draining, drainMark := drainMark } SlotTimers.stopped := by
  obtain ⟨full, -, stalled⟩ := h.landed landed
  have notAdvised : x.advisedRung = none := by
    rw [← Option.not_isSome_iff_eq_none, h.advised]
    intro hs; rw [hs] at landed; nomatch landed
  exact slotLegal_of_landed rfl (h.live (SlotState.live_of_hasLanded landed)) full ⟨(h.length _ full).1, h.marks.2⟩ stalled
    notAdvised nofun (fun _ => read)

/-! ### Single updates of an unlanded record -/

/-- A counted fill write, whose end lies within the capacity (R38, R115, R116). -/
theorem UnlandedLegal.filled {x : Slot} {t : SlotTimers} (h : UnlandedLegal x t) {fillEnd : Nat} (room : fillEnd ≤ x.capacity)
    (now : Tick) (gapLimit : Nat) (u : Setup) :
    UnlandedLegal (x.filled fillEnd now gapLimit) (timersAfterFill t (decide (x.state = .issued)) now u) := by
  have limited : x.limitedEnd fillEnd ≤ fillEnd := by
    unfold Slot.limitedEnd
    split
    · exact le_refl _
    · exact min_le_left _ _
  have within (len : Nat) (hlen : x.length = some len) : x.limitedEnd fillEnd ≤ len := by
    rw [Slot.limitedEnd, hlen]; exact min_le_right _ _
  obtain ⟨drained, filled⟩ := h.marks
  have state : (x.filled fillEnd now gapLimit).state = if x.state = .issued then .filling else x.state := rfl
  refine
    { h with
      unlanded := by
        rw [state]
        split
        · rfl
        · exact h.unlanded
      marks := ⟨drained.trans (le_max_left _ _), max_le filled (limited.trans room)⟩
      length := fun len hlen => ?_
      issued := fun hs => ?_
      advised := ?_
      checkTimer := ?_
      graceTimer := fun hg => ?_ }
  · obtain ⟨pos, cap, mark⟩ := h.length len hlen
    exact ⟨pos, cap, max_le mark (within len hlen)⟩
  · rw [state] at hs; split at hs <;> simp_all
  · rw [state]
    have := h.advised
    split <;> simp_all [Slot.filled]
  · rw [state]
    have := h.checkTimer
    split <;> simp_all [timersAfterFill, startTimer]
  · have := h.graceTimer hg
    rw [state, if_neg (by simp [this]), this]

/-- A declared length above 0, taken by R41, R42 or R43. -/
theorem UnlandedLegal.withLength {x : Slot} {t : SlotTimers} (h : UnlandedLegal x t) {v : Nat} (hv : 1 ≤ v) :
    UnlandedLegal (x.withLength v) t := by
  obtain ⟨drained, filled⟩ := h.marks
  unfold Slot.withLength
  split
  · exact { h with length := fun len hlen => Option.some.inj hlen ▸ ⟨h.live.2.2, le_refl _, filled⟩ }
  rename_i cap
  split
  · exact { h with
      marks := ⟨min_le_right _ _, Nat.not_lt.1 cap⟩
      length := fun len hlen => Option.some.inj hlen ▸ ⟨hv, Nat.not_lt.1 cap, le_refl _⟩
      issued := fun hs => by have := h.issued hs; omega }
  · rename_i mark
    exact { h with length := fun len hlen => Option.some.inj hlen ▸ ⟨hv, Nat.not_lt.1 cap, Nat.not_lt.1 mark⟩ }

/-- Advice on a slot in ISSUED or FILLING (R122). -/
theorem SlotLegal.advised_of {x : Slot} {t : SlotTimers} (h : SlotLegal x t) (hs : x.state = .issued ∨ x.state = .filling)
    (rung : Nat) (grace : Option Timer) :
    SlotLegal { x with state := .advised, advisedRung := some rung } { t with check := none, grace := grace } := by
  have hu : x.state.unlanded = true := by obtain hs | hs := hs <;> rw [hs] <;> rfl
  refine UnlandedLegal.slotLegal (x := { x with state := .advised, advisedRung := some rung }) ?_ (h.unlanded hu)
  exact { h.unlandedLegal hu with
    unlanded := rfl
    issued := nofun
    advised := ⟨fun _ => rfl, fun _ => rfl⟩
    checkTimer := ⟨nofun, nofun⟩
    graceTimer := fun _ => rfl }

/-! ### The slot table -/

/-- The laws of the slot table are about STU and PM alone. -/
theorem SlotTableLegal.of_table {s t : State} (h : SlotTableLegal s) (stu : t.stu = s.stu) (pm : t.pm = s.pm) :
    SlotTableLegal t := by
  have slot (n : Fin 8) : t.slot n = s.slot n := congrArg (fun u : Stu => u.slots[n]) stu
  have timers (n : Fin 8) : t.timers n = s.timers n := congrArg (fun u : Pm => u.timers[n]) pm
  constructor <;> simp only [slot, timers, stu]
  · exact h.slot
  · exact h.segments
  · exact h.windows
  · exact h.queue
  · exact h.sorted

theorem SlotTableLegal.sameTable {s t : State} (h : SlotTableLegal s) (k : SameTable s t) : SlotTableLegal t :=
  h.of_table k.stu k.pm

theorem SlotTableLegal.of_emptied {s t : State} (k : Emptied s t) : SlotTableLegal t := slotTableLegal_reset.of_table k.stu k.pm

/-- A record that is live holds the segment and the window that the record before it held, live. -/
def HeldFrom (x y : Slot) : Prop :=
  y.state.live = true → x.state.live = true ∧ y.segment = x.segment ∧ y.base = x.base ∧ y.capacity = x.capacity

/-- Records that hold no segment and no window but those held before keep them apart. -/
theorem SlotTableLegal.of_held {s t : State} (h : SlotTableLegal s) (slot : ∀ n, SlotLegal (t.slot n) (t.timers n))
    (held : ∀ n, HeldFrom (s.slot n) (t.slot n)) (queue : ∀ n, n ∈ t.stu.queue ↔ (t.slot n).state.hasLanded = true)
    (sorted : t.stu.queue.Pairwise (fun m n => (t.slot m).segment < (t.slot n).segment)) : SlotTableLegal t where
  slot := slot
  segments m n hm hn heq := by
    obtain ⟨lm, sm, -⟩ := held m hm
    obtain ⟨ln, sn, -⟩ := held n hn
    exact h.segments m n lm ln (sm ▸ sn ▸ heq)
  windows m n hm hn hne := by
    obtain ⟨lm, -, bm, cm⟩ := held m hm
    obtain ⟨ln, -, bn, cn⟩ := held n hn
    rw [bm, cm, bn, cn]
    exact h.windows m n lm ln hne
  queue := queue
  sorted := sorted

/-- The same with a queue that has lost entries alone: what is left of it stays in order (R51). -/
theorem SlotTableLegal.of_sublist {s t : State} (h : SlotTableLegal s) (slot : ∀ n, SlotLegal (t.slot n) (t.timers n))
    (held : ∀ n, HeldFrom (s.slot n) (t.slot n)) (queue : ∀ n, n ∈ t.stu.queue ↔ (t.slot n).state.hasLanded = true)
    (sub : t.stu.queue.Sublist s.stu.queue) : SlotTableLegal t := by
  have segment (n : Fin 8) (hn : n ∈ t.stu.queue) : (t.slot n).segment = (s.slot n).segment :=
    (held n (SlotState.live_of_hasLanded ((queue n).1 hn))).2.1
  refine h.of_held slot held queue ((h.sorted.sublist sub).imp_of_mem fun {m n} hm hn hlt => ?_)
  rw [segment m hm, segment n hn]
  exact hlt

/-- A slot freed (R54). -/
theorem SlotTableLegal.freeSlot {s : State} (h : SlotTableLegal s) (n : Fin 8) : SlotTableLegal (freeSlot s n) := by
  have timers (m : Fin 8) (hm : m ≠ n) : (Machine.freeSlot s n).timers m = s.timers m :=
    State.timers_setTimers_other s n m _ hm
  refine h.of_sublist (fun m => ?_) (fun m => ?_) (fun m => ?_) List.filter_sublist
  all_goals by_cases hm : m = n
  · rw [hm, freeSlot_slot_same, freeSlot_timers_same]; exact slotLegal_empty
  · rw [freeSlot_slot_other s hm, timers m hm]; exact h.slot m
  · rw [hm, freeSlot_slot_same]; exact nofun
  · rw [freeSlot_slot_other s hm]; exact fun hl => ⟨hl, rfl, rfl, rfl⟩
  · rw [hm, freeSlot_slot_same, freeSlot_queue]; simp [Slot.empty, SlotState.hasLanded]
  · rw [freeSlot_slot_other s hm, freeSlot_queue, ← h.queue m]; simp [hm]

/-- Of the slot table `t` differs from `s` in the record and the timers of slot `n` alone, which holds the segment and window that
it held. -/
structure SlotMoved (s t : State) (n : Fin 8) : Prop where
  others : ∀ m, m ≠ n → t.slot m = s.slot m ∧ t.timers m = s.timers m
  queue : t.stu.queue = s.stu.queue
  segment : (t.slot n).segment = (s.slot n).segment
  window : (t.slot n).base = (s.slot n).base ∧ (t.slot n).capacity = (s.slot n).capacity

/-- The slot table of `t` is that of `s` with this record and these timers at slot `n`. -/
structure SlotSet (s t : State) (n : Fin 8) (x : Slot) (y : SlotTimers) : Prop where
  stu : t.stu = (s.setSlot n x).stu
  pm : t.pm = (s.setTimers n y).pm

theorem SlotSet.slot {s t : State} {n : Fin 8} {x : Slot} {y : SlotTimers} (k : SlotSet s t n x y) (m : Fin 8) :
    t.slot m = if m = n then x else s.slot m := by
  rw [← State.slot_setSlot]; exact congrArg (fun u : Stu => u.slots[m]) k.stu

theorem SlotSet.timers {s t : State} {n : Fin 8} {x : Slot} {y : SlotTimers} (k : SlotSet s t n x y) (m : Fin 8) :
    t.timers m = if m = n then y else s.timers m := by
  rw [← State.timers_setTimers]; exact congrArg (fun u : Pm => u.timers[m]) k.pm

theorem State.setTimers_self (s : State) (n : Fin 8) : s.setTimers n (s.timers n) = s := by
  simp [State.setTimers, State.timers]

theorem State.setSlot_self (s : State) (n : Fin 8) : s.setSlot n (s.slot n) = s := by
  simp [State.setSlot, State.slot]

/-- A record replaced alone, its timers as they were. -/
theorem slotSet_of_slot {s t : State} {n : Fin 8} {x : Slot} (stu : t.stu = (s.setSlot n x).stu) (pm : t.pm = s.pm) :
    SlotSet s t n x (s.timers n) := ⟨stu, by rw [pm, State.setTimers_self]⟩

/-- Timers replaced alone, the record as it was. -/
theorem slotSet_of_timers {s t : State} {n : Fin 8} {y : SlotTimers} (stu : t.stu = s.stu) (pm : t.pm = (s.setTimers n y).pm) :
    SlotSet s t n (s.slot n) y := ⟨by rw [stu, State.setSlot_self], pm⟩

theorem SlotSet.moved {s t : State} {n : Fin 8} {x : Slot} {y : SlotTimers} (k : SlotSet s t n x y)
    (segment : x.segment = (s.slot n).segment) (window : x.base = (s.slot n).base ∧ x.capacity = (s.slot n).capacity) :
    SlotMoved s t n where
  others m hm := ⟨by rw [k.slot, if_neg hm], by rw [k.timers, if_neg hm]⟩
  queue := by rw [k.stu]; rfl
  segment := by rw [k.slot, if_pos rfl, segment]
  window := by rw [k.slot, if_pos rfl]; exact window

/-- A live slot's record and timers moved, landed or not as before. -/
theorem SlotTableLegal.moved {s t : State} {n : Fin 8} (h : SlotTableLegal s) (k : SlotMoved s t n)
    (live : (s.slot n).state.live = true) (landed : (t.slot n).state.hasLanded = (s.slot n).state.hasLanded)
    (legal : SlotLegal (t.slot n) (t.timers n)) : SlotTableLegal t := by
  refine h.of_sublist (fun m => ?_) (fun m hl => ?_) (fun m => ?_) (by rw [k.queue])
  all_goals by_cases hm : m = n
  · rw [hm]; exact legal
  · rw [(k.others m hm).1, (k.others m hm).2]; exact h.slot m
  · rw [hm]; exact ⟨live, k.segment, k.window⟩
  · rw [(k.others m hm).1] at hl ⊢; exact ⟨hl, rfl, rfl, rfl⟩
  · rw [hm, landed, k.queue, h.queue]
  · rw [(k.others m hm).1, k.queue, h.queue]

/-- A live slot given another legal record and timers, landed or not as before. -/
theorem SlotTableLegal.set {s t : State} {n : Fin 8} {x : Slot} {y : SlotTimers} (h : SlotTableLegal s) (k : SlotSet s t n x y)
    (legal : SlotLegal x y) (live : (s.slot n).state.live = true) (landed : x.state.hasLanded = (s.slot n).state.hasLanded)
    (segment : x.segment = (s.slot n).segment) (window : x.base = (s.slot n).base ∧ x.capacity = (s.slot n).capacity) :
    SlotTableLegal t := by
  refine h.moved (k.moved segment window) live ?_ ?_
  · rw [k.slot, if_pos rfl]; exact landed
  · rw [k.slot, k.timers, if_pos rfl, if_pos rfl]; exact legal

/-- An unlanded slot put in the queue at its place, with any landed record of its segment and window (R44, R51). -/
theorem SlotTableLegal.enqueued {s t : State} {n : Fin 8} (h : SlotTableLegal s) (k : SlotMoved s t n)
    (unlanded : (s.slot n).state.unlanded = true) {x : Slot} (landed : x.state.hasLanded = true)
    (legal : SlotLegal x SlotTimers.stopped) (segment : x.segment = (t.slot n).segment)
    (window : x.base = (t.slot n).base ∧ x.capacity = (t.slot n).capacity) :
    SlotTableLegal ((landedTable t n).setSlot n x) := by
  have slot (m : Fin 8) : ((landedTable t n).setSlot n x).slot m = if m = n then x else s.slot m := by
    rw [State.slot_setSlot, landedTable_slot]
    split
    · rfl
    · rename_i hm; exact (k.others m hm).1
  have timers (m : Fin 8) : ((landedTable t n).setSlot n x).timers m = if m = n then SlotTimers.stopped else s.timers m := by
    rw [State.setSlot_timers, landedTable_timers]
    split
    · rfl
    · rename_i hm; exact (k.others m hm).2
  have segments : (fun m => (((landedTable t n).setSlot n x).slot m).segment) = fun m => (t.slot m).segment := by
    funext m
    rw [slot]
    split
    · rename_i hm; rw [hm, segment]
    · rename_i hm; rw [(k.others m hm).1]
  have before : (fun m => (t.slot m).segment) = fun m => (s.slot m).segment := by
    funext m
    by_cases hm : m = n
    · rw [hm, k.segment]
    · rw [(k.others m hm).1]
  have queue : ((landedTable t n).setSlot n x).stu.queue = queueWith t n := rfl
  refine h.of_held (fun m => ?_) (fun m hl => ?_) (fun m => ?_) ?_
  · rw [slot, timers]
    split
    · exact legal
    · exact h.slot m
  · rw [slot] at hl ⊢
    split
    · rename_i hm
      rw [hm]
      exact ⟨SlotState.live_of_unlanded unlanded, segment.trans k.segment, window.1.trans k.window.1, window.2.trans k.window.2⟩
    · rename_i hm
      rw [if_neg hm] at hl
      exact ⟨hl, rfl, rfl, rfl⟩
  · rw [slot, queue, queueWith, mem_insertBySegment, k.queue, h.queue]
    split
    · rename_i hm; simp [hm, landed]
    · rename_i hm; simp [hm]
  · have place := sorted_insertBySegment (segmentOf := fun m => (s.slot m).segment) (n := n) h.sorted (fun m hm heq => by
      have hl := (h.queue m).1 hm
      obtain rfl := h.segments m n (SlotState.live_of_hasLanded hl) (SlotState.live_of_unlanded unlanded) heq
      simp [SlotState.hasLanded_of_unlanded unlanded] at hl)
    show List.Pairwise (fun a b => (fun m => (((landedTable t n).setSlot n x).slot m).segment) a
      < (fun m => (((landedTable t n).setSlot n x).slot m).segment) b) (queueWith t n)
    rw [segments, queueWith, k.queue]
    simpa only [congrFun before] using place

/-- The landing of an unlanded slot whose fill mark has reached its length (R44 to R48). -/
theorem SlotTableLegal.land {s t : State} {n : Fin 8} (h : SlotTableLegal s) (k : SlotMoved s t n)
    (unlanded : (s.slot n).state.unlanded = true) (legal : UnlandedLegal (t.slot n) (t.timers n))
    (full : (t.slot n).length = some (t.slot n).fillMark) : SlotTableLegal (land t n) := by
  have enqueued {state : SlotState} {drainMark : Nat} (landed : state.hasLanded = true) (unread : state = .landed → drainMark = 0)
      (read : state = .draining → 1 ≤ drainMark ∧ drainMark < (t.slot n).fillMark) : SlotTableLegal ((landedTable t n).setSlot n
        { (t.slot n).landedRecord with state := state, drainMark := drainMark }) :=
    h.enqueued k unlanded landed (legal.slotLegal_landed full landed unread read) rfl ⟨rfl, rfl⟩
  obtain ⟨unread, ht⟩ | ⟨read, short, ht⟩ | ht := land_table t n
  · have table : (landedTable t n).setSlot n { (t.slot n).landedRecord with state := .landed, drainMark := (t.slot n).drainMark }
        = landedTable t n := by
      simp [landedTable, State.setSlot, State.setQueue, State.setTimers, Slot.landedRecord]
    have legal := enqueued (state := .landed) rfl (fun _ => unread) nofun
    rw [table] at legal
    exact legal.sameTable ht
  · rw [full] at short
    have below := lt_of_le_of_ne legal.marks.1 (fun heq => short (congrArg some heq))
    exact (enqueued (state := .draining) rfl nofun (fun _ => ⟨Nat.pos_of_ne_zero read, below⟩)).sameTable ht
  · have freed := (enqueued (state := .landed) (drainMark := 0) rfl (fun _ => rfl) nofun).freeSlot n
    rw [freeSlot_setSlot] at freed
    exact freed.sameTable ht

/-- An unlanded slot given another record within the bounds, which lands if its fill mark is then its length (R40). -/
theorem SlotTableLegal.landIfFull {s t : State} {n : Fin 8} {x : Slot} {y : SlotTimers} (h : SlotTableLegal s)
    (k : SlotSet s t n x y) (legal : UnlandedLegal x y) (unlanded : (s.slot n).state.unlanded = true)
    (segment : x.segment = (s.slot n).segment) (window : x.base = (s.slot n).base ∧ x.capacity = (s.slot n).capacity) :
    SlotTableLegal (landIfFull t n) := by
  have slot : t.slot n = x := by rw [k.slot, if_pos rfl]
  have timers : t.timers n = y := by rw [k.timers, if_pos rfl]
  unfold Machine.landIfFull
  rw [slot]
  split
  · rename_i full
    exact h.land (k.moved segment window) unlanded (by rw [slot, timers]; exact legal) (by rw [slot]; exact full)
  · rename_i short
    exact h.set k (legal.slotLegal short) (SlotState.live_of_unlanded unlanded)
      (by rw [SlotState.hasLanded_of_unlanded legal.unlanded, SlotState.hasLanded_of_unlanded unlanded]) segment window

end Sys2Proof.Machine
end

section
/-! PROOF. Observations, decisions, expiries and commands keep the laws of the slot table; and so does every step (O59). -/

namespace Sys2Proof.Machine

/-! ### Fill, drain and declared length (R38 to R49) -/

/-- A fill observation that ends within the slot's window (R24, R38 to R40). -/
theorem SlotTableLegal.fillObservation {s : State} (h : SlotTableLegal s) {n : Fin 8} (low : Nat) {fillEnd : Nat}
    (room : fillEnd ≤ (s.slot n).capacity) : SlotTableLegal (fillObservation s n low fillEnd) := by
  rw [fillObservation_eq]
  split
  · rename_i counted
    rw [Bool.and_eq_true] at counted
    have record := ((h.slot n).unlandedLegal counted.1).filled room s.now s.setup.gapLimit s.setup
    exact h.landIfFull ⟨rfl, rfl⟩ record counted.1 rfl ⟨rfl, rfl⟩
  · exact h

theorem SlotTableLegal.drainUnlanded {s : State} (h : SlotTableLegal s) {n : Fin 8} (unlanded : (s.slot n).state.unlanded = true)
    (drainEnd : Nat) : SlotTableLegal (drainUnlanded s n drainEnd) := by
  have record (early : Bool) : SlotLegal { s.slot n with
      drainMark := max (s.slot n).drainMark (min drainEnd (s.slot n).fillMark), earlyUnderrun := early } (s.timers n) :=
    UnlandedLegal.slotLegal
      { (h.slot n).unlandedLegal unlanded with
        marks := ⟨max_le (h.slot n).marks.1 (min_le_right _ _), (h.slot n).marks.2⟩ }
      ((h.slot n).unlanded unlanded)
  have marked {t : State} (early : Bool) (stu : t.stu = (s.setSlot n { s.slot n with
      drainMark := max (s.slot n).drainMark (min drainEnd (s.slot n).fillMark), earlyUnderrun := early }).stu)
      (pm : t.pm = s.pm) : SlotTableLegal t :=
    h.set (slotSet_of_slot stu pm) (record early) (SlotState.live_of_unlanded unlanded) rfl rfl ⟨rfl, rfl⟩
  unfold Machine.drainUnlanded
  dsimp only
  split
  · exact marked true rfl rfl
  · exact marked (s.slot n).earlyUnderrun rfl rfl

/-- A drain observation of a landed slot: the slot DRAINING, or consumed at its length (R47, R48). -/
theorem SlotTableLegal.drainLanded {s : State} (h : SlotTableLegal s) {n : Fin 8} (landed : (s.slot n).state.hasLanded = true)
    (drainEnd : Nat) : SlotTableLegal (drainLanded s n drainEnd) := by
  obtain ⟨full, stopped, -⟩ := (h.slot n).landed landed
  have live := SlotState.live_of_hasLanded landed
  obtain ht | ⟨past, short, ht⟩ | ht := drainLanded_table s n drainEnd
  · rw [ht]; exact h
  · rw [full, Option.getD_some] at past short ht
    have below := lt_of_le_of_ne (min_le_right _ _) (fun heq => short (congrArg some heq))
    have record := (h.slot n).slotLegal_draining landed (drainMark := min drainEnd (s.slot n).fillMark) ⟨by omega, below⟩
    rw [← stopped] at record
    exact (h.set (slotSet_of_slot rfl rfl) record live landed.symm rfl ⟨rfl, rfl⟩).sameTable ht
  · exact (h.freeSlot n).sameTable ht

theorem SlotTableLegal.drainObservation {s : State} (h : SlotTableLegal s) (n : Fin 8) (drainEnd : Nat) :
    SlotTableLegal (drainObservation s n drainEnd) := by
  unfold Machine.drainObservation
  split
  · rename_i unlanded; exact h.drainUnlanded unlanded drainEnd
  · split
    · rename_i landed; exact h.drainLanded landed drainEnd
    · exact h

theorem withLength_held (x : Slot) (v : Nat) :
    (x.withLength v).segment = x.segment ∧ (x.withLength v).base = x.base ∧ (x.withLength v).capacity = x.capacity := by
  unfold Slot.withLength
  split
  · exact ⟨rfl, rfl, rfl⟩
  · split <;> exact ⟨rfl, rfl, rfl⟩

/-- A declared length above 0 of an unlanded slot (R41 to R43). -/
theorem SlotTableLegal.declareLength {s : State} (h : SlotTableLegal s) {n : Fin 8} (unlanded : (s.slot n).state.unlanded = true)
    {v : Nat} (hv : 1 ≤ v) : SlotTableLegal (declareLength s n v) := by
  obtain ⟨segment, window⟩ := withLength_held (s.slot n) v
  have record := ((h.slot n).unlandedLegal unlanded).withLength hv
  unfold Machine.declareLength
  dsimp only
  split
  · exact h.landIfFull (slotSet_of_slot rfl rfl) record unlanded segment window
  · exact h.landIfFull (slotSet_of_slot rfl rfl) record unlanded segment window

/-! ### Decisions (R97 to R111) -/

/-- A slot allocated for a segment and a window that no live slot holds (R37). -/
theorem SlotTableLegal.allocate {s : State} (h : SlotTableLegal s) {n : Fin 8} {q : Request} (free : (s.slot n).state = .free)
    (request : 1 ≤ q.duration ∧ q.duration ≤ 20000 ∧ 1 ≤ q.capacity)
    (segment : ∀ m, (s.slot m).state.live = true → (s.slot m).segment ≠ q.segment) (window : s.overlapping q = none)
    (rung expected : Nat) : SlotTableLegal (allocate s n q rung expected) := by
  have apart (m : Fin 8) (hm : (s.slot m).state.live = true) :
      windowsShare q.base q.capacity (s.slot m).base (s.slot m).capacity = false := by
    rw [← Bool.not_eq_true]
    exact fun hw => overlapping_eq_none.1 window m ⟨hm, hw⟩
  have slot (m : Fin 8) : (Machine.allocate s n q rung expected).slot m =
      if m = n then issuedSlot q rung expected s.now else s.slot m := State.slot_setSlot s n m _
  have timers (m : Fin 8) : (Machine.allocate s n q rung expected).timers m =
      if m = n then { stall := startTimer s.now s.setup.stallTime, check := none, grace := none } else s.timers m :=
    State.timers_setTimers _ n m _
  have issued : SlotLegal (issuedSlot q rung expected s.now)
      { stall := startTimer s.now s.setup.stallTime, check := none, grace := none } := by
    constructor <;> simp [issuedSlot, Slot.empty, SlotState.live, SlotState.unlanded, SlotState.hasLanded, request]
  have queued (m : Fin 8) (hm : m ∈ s.stu.queue) : m ≠ n := by
    rintro rfl
    have := (h.queue m).1 hm
    rw [free] at this
    nomatch this
  constructor
  case slot =>
    intro m
    rw [slot, timers]
    split
    · exact issued
    · exact h.slot m
  case segments =>
    intro a b ha hb heq
    rw [slot] at ha hb heq
    rw [slot b] at heq
    split at ha <;> split at hb <;> simp_all only [if_true, if_false]
    · exact absurd heq.symm (segment b hb)
    · exact absurd heq (segment a ha)
    · exact h.segments a b ha hb heq
  case windows =>
    intro a b ha hb hne
    rw [slot] at ha hb
    rw [slot, slot]
    split at ha <;> split at hb <;> simp_all only [if_true, if_false, ne_eq, not_true]
    · exact apart b hb
    · have := apart a ha
      rw [windowsShare_eq_false] at this ⊢
      exact this.symm
    · exact h.windows a b ha hb hne
  case queue =>
    intro m
    rw [slot]
    split
    · rename_i hm
      refine ⟨fun hq => absurd hm (queued m hq), nofun⟩
    · exact h.queue m
  case sorted =>
    refine h.sorted.imp_of_mem fun {a b} ha hb hlt => ?_
    rw [slot, slot, if_neg (queued a ha), if_neg (queued b hb)]
    exact hlt

theorem SlotTableLegal.capFitGo {s : State} (h : SlotTableLegal s) {q : Request}
    (request : 1 ≤ q.duration ∧ q.duration ≤ 20000 ∧ 1 ≤ q.capacity)
    (segment : ∀ m, (s.slot m).state.live = true → (s.slot m).segment ≠ q.segment) (window : s.overlapping q = none)
    (rung : Nat) : SlotTableLegal (capFitGo s q rung).2 := by
  obtain ⟨-, hd⟩ | ⟨n, -, -, hd⟩ | ⟨n, k, e, free, -, hd⟩ := capFitGo_cases s q rung
  · rw [hd]; exact h.of_table rfl rfl
  · rw [hd]; exact h.of_table rfl rfl
  · rw [hd]
    exact (h.allocate (lowestFree_eq_some.1 free).1 request segment window k e).sameTable (sameTable_noteRung _ k)

theorem requestValid_ranges {w : Windows} {q : Request} (h : requestValid w q = true) :
    1 ≤ q.duration ∧ q.duration ≤ 20000 ∧ 1 ≤ q.capacity := by
  obtain ⟨low, high, cap, -⟩ := (requestValid_iff w q).1 h
  exact ⟨low, high, cap⟩

/-- What a FETCH can leave of the slot table: what stood there, or what the GO steps leave of a valid request for a segment and a
window that no live slot holds (R97 to R107). -/
theorem decideFetch_table (s : State) (q : Request) : SameTable s (decideFetch s q).2
    ∨ s.sc.governor.armed = true ∧ requestValid s.windows q = true ∧ s.liveHolding q.segment = none ∧ s.overlapping q = none
      ∧ (decideFetch s q).2 = (capFitGo s q (rungStep s)).2 := by
  have same : SameTable s s := .refl s
  have counted (kind : TallyKind) : SameTable s (growTally s kind 1) := ⟨rfl, rfl, rfl, rfl, rfl⟩
  unfold decideFetch
  split
  case h_1 => exact .inl same
  case h_2 => exact .inl same
  case h_3 => exact .inl same
  all_goals
    rename_i governor
    split
    · exact .inl (counted _)
    rename_i valid
    split
    · exact .inl (counted _)
    rename_i segment
    split
    · exact .inl (counted _)
    rename_i window
    split
    · exact .inl (counted _)
    split
    · exact .inl (counted _)
    · exact .inr ⟨by rw [governor]; rfl, by simpa using valid, segment, window, rfl⟩

theorem SlotTableLegal.decideFetch {s : State} (h : SlotTableLegal s) (q : Request) : SlotTableLegal (decideFetch s q).2 := by
  obtain same | ⟨-, valid, segment, window, hd⟩ := decideFetch_table s q
  · exact h.sameTable same
  · rw [hd]
    exact h.capFitGo (requestValid_ranges valid) (fun m hm heq => liveHolding_eq_none.1 segment m ⟨hm, heq⟩) window _

theorem SlotState.unlanded_of_live {x : SlotState} (live : x.live = true) (landed : ¬ x.hasLanded = true) : x.unlanded = true :=
  (SlotState.live_iff.1 live).resolve_right landed

theorem SlotTableLegal.decideLength {s : State} (h : SlotTableLegal s) (q : Request) : SlotTableLegal (decideLength s q).2 := by
  unfold Machine.decideLength
  split
  · exact h.of_table rfl rfl
  rename_i positive
  split
  · exact h
  rename_i n holding
  split
  · exact h
  rename_i landed
  split
  · exact h
  · exact h.declareLength (SlotState.unlanded_of_live (liveHolding_eq_some.1 holding).1.1 landed) (Nat.pos_of_ne_zero positive)

theorem SlotTableLegal.decideDrop {s : State} (h : SlotTableLegal s) (q : Request) : SlotTableLegal (decideDrop s q).2 := by
  unfold Machine.decideDrop
  split
  · exact h
  · exact h.freeSlot _

/-- What the new fetch of a REPLACE can leave of the slot table: what stood there, or what the GO steps leave of a valid request
for a window that no live slot holds (R111). -/
theorem decideRefetch_table (s : State) (q : Request) (old : Slot) : SameTable s (decideRefetch s q old).2
    ∨ requestValid s.windows q = true ∧ s.overlapping q = none
      ∧ ∃ rung, (decideRefetch s q old).2 = (capFitGo s q rung).2 := by
  unfold decideRefetch
  split
  · exact .inl ⟨rfl, rfl, rfl, rfl, rfl⟩
  rename_i valid
  split
  · exact .inl ⟨rfl, rfl, rfl, rfl, rfl⟩
  · rename_i window
    exact .inr ⟨by simpa using valid, window, _, rfl⟩

/-- What a REPLACE can leave of the slot table: what stood there, or in the armed states what the new fetch of an unlanded slot's
segment leaves, with that slot freed (R110). -/
theorem decideReplace_table (s : State) (q : Request) : SameTable s (decideReplace s q).2
    ∨ ∃ n, s.sc.governor.armed = true ∧ (s.slot n).state.unlanded = true ∧ (s.slot n).segment = q.segment
      ∧ (decideReplace s q).2 = (decideRefetch (freeSlot s n) q (s.slot n)).2 := by
  unfold decideReplace
  split
  case h_1 => exact .inl (.refl s)
  case h_2 => exact .inl (.refl s)
  case h_3 => exact .inl (.refl s)
  all_goals
    rename_i governor
    split
    · exact .inl (.refl s)
    rename_i n holding
    split
    · exact .inl ⟨rfl, rfl, rfl, rfl, rfl⟩
    · obtain ⟨⟨unlanded, segment⟩, -⟩ := unlandedHolding_eq_some.1 holding
      exact .inr ⟨n, by rw [governor]; rfl, unlanded, segment, rfl⟩

/-- With a slot freed no live slot holds its segment any more (R37, R54). -/
theorem SlotTableLegal.segment_freed {s : State} (h : SlotTableLegal s) {n : Fin 8} (live : (s.slot n).state.live = true)
    (m : Fin 8) (hm : ((Machine.freeSlot s n).slot m).state.live = true) :
    ((Machine.freeSlot s n).slot m).segment ≠ (s.slot n).segment := by
  have other : m ≠ n := by
    rintro rfl
    rw [freeSlot_slot_same] at hm
    nomatch hm
  rw [freeSlot_slot_other s other] at hm ⊢
  exact fun heq => other (h.segments m n hm live heq)

theorem SlotTableLegal.decideReplace {s : State} (h : SlotTableLegal s) (q : Request) :
    SlotTableLegal (decideReplace s q).2 := by
  obtain same | ⟨n, -, unlanded, segment, hd⟩ := decideReplace_table s q
  · exact h.sameTable same
  rw [hd]
  obtain same | ⟨valid, window, rung, hd⟩ := decideRefetch_table (Machine.freeSlot s n) q (s.slot n)
  · exact (h.freeSlot n).sameTable same
  · rw [hd]
    refine (h.freeSlot n).capFitGo (requestValid_ranges valid) (fun m hm => ?_) window rung
    rw [← segment]
    exact h.segment_freed (SlotState.live_of_unlanded unlanded) m hm

theorem SlotTableLegal.decideRequest {s : State} (h : SlotTableLegal s) (q : Request) :
    SlotTableLegal (decideRequest s q).2 := by
  unfold Machine.decideRequest
  split
  · exact h.decideFetch q
  split
  · exact h.decideLength q
  split
  · exact h.decideDrop q
  split
  · exact h.decideReplace q
  · exact h.of_table rfl rfl

theorem SlotTableLegal.requestRun {s : State} (h : SlotTableLegal s) (k : Fin 16) (bytes : List (Nat × Byte)) :
    SlotTableLegal (requestRun s k bytes) := by
  have shadowed : SlotTableLegal (shadowRequest s k bytes) := h.of_table rfl rfl
  unfold Machine.requestRun closeTicket
  dsimp only
  split
  · split
    · exact shadowed.of_table rfl rfl
    split
    · exact shadowed
    · exact (shadowed.decideRequest _).of_table rfl rfl
  · exact shadowed

/-! ### Expiries and time (R33, R120 to R126, R136) -/

theorem isSome_of_timerDue {now : Tick} {t : Option Timer} (h : timerDue now t = true) : t.isSome = true := by
  cases t with
  | none => nomatch h
  | some t => rfl

/-- A slot whose timers are not all stopped is unlanded (R54, R115). -/
theorem SlotLegal.unlanded_of_running {x : Slot} {t : SlotTimers} (h : SlotLegal x t) (running : t ≠ SlotTimers.stopped) :
    x.state.unlanded = true := by
  have notFree : x.state.live = true := by
    rw [← Bool.not_eq_false, SlotState.live_eq_false]
    exact fun hs => running (h.free hs).2
  exact SlotState.unlanded_of_live notFree (fun landed => running (h.landed landed).2.1)

/-- Advice on a slot in ISSUED or FILLING (R122). -/
theorem SlotTableLegal.advise {s : State} (h : SlotTableLegal s) {n : Fin 8}
    (hs : (s.slot n).state = .issued ∨ (s.slot n).state = .filling) : SlotTableLegal (advise s n) :=
  h.set ⟨rfl, rfl⟩ ((h.slot n).advised_of hs (replacementRung s (s.slot n)) (startTimer s.now s.setup.graceTime))
    (live_of_issued_or_filling hs) (by obtain hs | hs := hs <;> rw [hs] <;> rfl) rfl ⟨rfl, rfl⟩

/-- The expiry of a check timer that runs: its slot is FILLING (R116, R120). -/
theorem SlotTableLegal.checkExpires {s : State} (h : SlotTableLegal s) {n : Fin 8} (due : s.checkDue n = true) :
    SlotTableLegal (checkExpires s n) := by
  have filling := (h.slot n).checkTimer.1 (isSome_of_timerDue due)
  unfold Machine.checkExpires
  dsimp only
  rw [if_pos filling]
  split
  · exact h.advise (.inr filling)
  · refine h.set (slotSet_of_timers rfl rfl) ?_ (live_of_issued_or_filling (.inr filling)) rfl rfl ⟨rfl, rfl⟩
    have unlanded : (s.slot n).state.unlanded = true := by rw [filling]; rfl
    exact UnlandedLegal.slotLegal { (h.slot n).unlandedLegal unlanded with checkTimer := ⟨fun _ => filling, fun _ => rfl⟩ }
      ((h.slot n).unlanded unlanded)

/-- The expiry of a stall timer that runs: its slot is unlanded (R115, R124). -/
theorem SlotTableLegal.stallExpires {s : State} (h : SlotTableLegal s) {n : Fin 8} (due : s.stallDue n = true) :
    SlotTableLegal (stallExpires s n) := by
  have unlanded : (s.slot n).state.unlanded = true := (h.slot n).unlanded_of_running (fun stopped => by
    have running := isSome_of_timerDue due
    rw [stopped] at running
    nomatch running)
  have record : SlotLegal { s.slot n with stalled := true } { s.timers n with stall := none } :=
    UnlandedLegal.slotLegal { (h.slot n).unlandedLegal unlanded with } ((h.slot n).unlanded unlanded)
  have marked : SlotTableLegal (reportEvent ((s.setTimers n { s.timers n with stall := none }).setSlot n
      { s.slot n with stalled := true }) .stall .stalls) :=
    h.set ⟨rfl, rfl⟩ record (SlotState.live_of_unlanded unlanded) rfl rfl ⟨rfl, rfl⟩
  unfold Machine.stallExpires
  dsimp only
  split
  · rename_i advised
    simp only [Bool.and_eq_true, Bool.or_eq_true, decide_eq_true_eq] at advised
    exact marked.advise (by simpa using advised.1)
  · exact marked

/-- The expiry of a grace timer that runs: its slot is ADVISED (R126). -/
theorem SlotTableLegal.graceExpires {s : State} (h : SlotTableLegal s) {n : Fin 8} (due : s.graceDue n = true) :
    SlotTableLegal (graceExpires s n) := by
  have advised := (h.slot n).graceTimer (isSome_of_timerDue due)
  have unlanded : (s.slot n).state.unlanded = true := by rw [advised]; rfl
  have record : SlotLegal (s.slot n) { s.timers n with grace := none } :=
    UnlandedLegal.slotLegal { (h.slot n).unlandedLegal unlanded with graceTimer := nofun } ((h.slot n).unlanded unlanded)
  exact h.set (slotSet_of_timers rfl rfl) record (SlotState.live_of_unlanded unlanded) rfl rfl ⟨rfl, rfl⟩

theorem SlotTableLegal.slotExpiries {s : State} (h : SlotTableLegal s) (n : Fin 8) : SlotTableLegal (slotExpiries s n) := by
  have stall : SlotTableLegal (stallIfDue s n) := by
    unfold stallIfDue
    split
    · rename_i due; exact h.stallExpires due
    · exact h
  have check : SlotTableLegal (checkIfDue (stallIfDue s n) n) := by
    unfold checkIfDue
    split
    · rename_i due; exact stall.checkExpires due
    · exact stall
  unfold Machine.slotExpiries graceIfDue
  split
  · rename_i due; exact check.graceExpires due
  · exact check

theorem SlotTableLegal.takeDueExpiries {s : State} (h : SlotTableLegal s) : SlotTableLegal (takeDueExpiries s) :=
  List.foldlRecOn allSlots Machine.slotExpiries (motive := SlotTableLegal) (h.sameTable (sameTable_settleExpiries s))
    (fun _ ht n _ => ht.slotExpiries n)

theorem SlotLegal.afterTick {x : Slot} {t : SlotTimers} (h : SlotLegal x t) (now : Tick) : SlotLegal (x.afterTick now) t := by
  unfold Slot.afterTick
  split
  · rename_i silent
    simp only [Bool.and_eq_true] at silent
    exact UnlandedLegal.slotLegal { h.unlandedLegal silent.1 with } (h.unlanded silent.1)
  · exact h

theorem SlotTableLegal.tickTime {s : State} (h : SlotTableLegal s) : SlotTableLegal (tickTime s) := by
  have slot := tickTime_slot s
  refine h.of_sublist (fun n => ?_) (fun n hl => ?_) (fun n => ?_) (List.Sublist.refl _)
  · rw [slot]; exact (h.slot n).afterTick _
  · rw [slot, state_afterTick] at hl
    rw [slot, afterTick_eq]
    exact ⟨hl, rfl, rfl, rfl⟩
  · rw [slot, state_afterTick]; exact h.queue n

theorem SlotTableLegal.refclkTime {s : State} (h : SlotTableLegal s) : SlotTableLegal (refclkTime s) := by
  unfold Machine.refclkTime
  split
  · exact h.of_table rfl rfl
  · exact h.tickTime

/-! ### Control records, directives and runs -/

theorem SlotTableLegal.controlTable {s t : State} (h : SlotTableLegal s) (k : ControlTable s t) : SlotTableLegal t := by
  obtain k | k | k := k
  · exact h.sameTable k
  · exact .of_emptied k
  · exact h.of_table k.stu k.pm

theorem SlotTableLegal.takeEntry {s : State} (h : SlotTableLegal s) (code : Byte) (argument : BitVec 32) (entry : Nat) :
    SlotTableLegal (takeEntry s code argument entry) := by
  obtain k | k := takeEntry_table s code argument entry
  · exact h.sameTable k
  · exact .of_emptied k

/-- A property that every run keeps, given that its bytes fall in its area, is kept by a whole observation (R19). -/
theorem handRuns_keeps_in {P : State → Prop} {take : Area → List (Nat × Byte) → State → State}
    (h : ∀ area run s, (∀ ab ∈ run, s.areaAt ab.1 = area) → P s → P (take area run s)) (fuel : Nat) (bytes : List (Nat × Byte))
    {s : State} (hs : P s) : P (handRuns take fuel bytes s) := by
  induction fuel generalizing bytes s with
  | zero => exact hs
  | succ fuel ih =>
    cases bytes with
    | nil => exact hs
    | cons ab rest =>
      refine ih _ (h _ _ s (fun cd hcd => ?_) hs)
      obtain rfl | hcd := List.mem_cons.1 hcd
      · rfl
      · simpa using List.mem_takeWhile_imp hcd

/-- A run that falls in a slot's window ends within it (R24). -/
theorem runEnd_le_of_window {s : State} {run : List (Nat × Byte)} {n : Fin 8} (h : ∀ ab ∈ run, s.areaAt ab.1 = .window n) :
    runEnd run ≤ (s.slot n).base + (s.slot n).capacity := by
  unfold runEnd
  cases hl : run.getLast? with
  | none => exact Nat.zero_le _
  | some ab =>
    have covered := (window_of_areaAt (h ab (List.mem_of_getLast? hl))).2.1
    simp only [Slot.covers, Bool.and_eq_true, decide_eq_true_eq] at covered
    exact covered.2

theorem SlotTableLegal.takeWriteRun {s : State} (h : SlotTableLegal s) (fills : Bool) {area : Area} {run : List (Nat × Byte)}
    (falls : ∀ ab ∈ run, s.areaAt ab.1 = area) : SlotTableLegal (takeWriteRun fills area run s) := by
  cases area
  case control p => exact h.controlTable (controlRun_table s p _)
  case request k => exact h.requestRun k _
  case window n =>
    simp only [Machine.takeWriteRun]
    split
    · have inside := runEnd_le_of_window falls
      exact h.fillObservation _ (by omega)
    · exact h
  all_goals exact h

theorem SlotTableLegal.takeReadRun {s : State} (h : SlotTableLegal s) (drains : Bool) (area : Area) (run : List (Nat × Byte)) :
    SlotTableLegal (takeReadRun drains area run s) := by
  cases area
  case window n =>
    simp only [Machine.takeReadRun]
    split
    · exact h.drainObservation _ _
    · exact h
  all_goals exact h

/-! ### Commands -/

theorem SlotTableLegal.whenReleased {s : State} (h : SlotTableLegal s) {event : State → State}
    (he : ∀ t, SlotTableLegal t → SlotTableLegal (event t)) : SlotTableLegal (whenReleased s event) := by
  unfold Machine.whenReleased
  split
  · exact h
  · exact he _ h.takeDueExpiries

theorem SlotTableLegal.expiryStep {s : State} (h : SlotTableLegal s) {due : State → Bool} {event : State → State}
    (he : due s = true → SlotTableLegal (event s)) : SlotTableLegal (expiryStep s due event) := by
  unfold Machine.expiryStep
  split
  · exact h
  · split
    · rename_i hd; exact he hd
    · exact h

theorem SlotTableLegal.writeTransaction {s : State} (h : SlotTableLegal s) (w : BusWrite) :
    SlotTableLegal (writeTransaction s w) :=
  SlotTableLegal.whenReleased (h.of_table (t := forwardWrite s w) rfl rfl)
    (fun _ ht => handRuns_keeps_in (fun _ _ _ falls hu => hu.takeWriteRun _ falls) _ _ ht)

theorem SlotTableLegal.readReleased {s : State} (h : SlotTableLegal s) (r : ReadResponse) :
    SlotTableLegal (readReleased s r) := by
  have snapshot (bytes : List (Nat × Byte)) : SlotTableLegal (snapshotIfHeader s bytes) := by
    unfold snapshotIfHeader
    split
    · exact h.sameTable (sameTable_takeSnapshot s)
    · exact h
  unfold Machine.readReleased
  split
  · exact h.of_table rfl rfl
  · have observed : SlotTableLegal (observeRead s r) := handRuns_keeps (fun _ _ _ hu => hu.takeReadRun _ _ _) _ _ (snapshot _)
    exact observed.of_table rfl rfl

theorem SlotTableLegal.readTransaction {s : State} (h : SlotTableLegal s) (r : ReadResponse) :
    SlotTableLegal (readTransaction s r) := by
  unfold Machine.readTransaction
  split
  · exact h.of_table rfl rfl
  · exact h.takeDueExpiries.readReleased r

theorem SlotTableLegal.releaseReset {s : State} (h : SlotTableLegal s) (pageBase : BitVec 28) (prescaler : BitVec 16)
    (revision : Byte) : SlotTableLegal (releaseReset s pageBase prescaler revision) :=
  h.of_table (by rw [Machine.releaseReset, takeSnapshot_stu]) (by rw [Machine.releaseReset, takeSnapshot_pm])

/-- Every command keeps the laws of the slot table. -/
theorem SlotTableLegal.command {s t : State} (h : SlotTableLegal s) (k : CommandLeaves s t) : SlotTableLegal t := by
  cases k with
  | idle => exact h
  | write w => exact h.writeTransaction w
  | read r => exact h.readTransaction r
  | assertReset => exact slotTableLegal_reset.of_table rfl rfl
  | releaseReset _ pageBase prescaler revision => exact h.releaseReset pageBase prescaler revision
  | tick => exact h.whenReleased (fun _ hu => hu.tickTime)
  | refclkPeriod => exact h.whenReleased (fun _ hu => hu.refclkTime)
  | entry code argument entry => exact h.whenReleased (fun _ hu => hu.takeEntry code argument entry)
  | restart => exact h.whenReleased (fun u _ => .of_emptied (emptied_takeRestart u))
  | unknownEntry code entry => exact h.whenReleased (fun _ hu => hu.of_table rfl rfl)
  | settleExpiry p => exact h.expiryStep (fun _ => h.sameTable (sameTable_settleExpires s p))
  | stallExpiry n => exact h.expiryStep (fun due => h.stallExpires due)
  | checkExpiry n => exact h.expiryStep (fun due => h.checkExpires due)
  | graceExpiry n => exact h.expiryStep (fun due => h.graceExpires due)

/-- Settles O59. Every command is made of operations that keep the slot table's laws: those that leave the table alone, those that
move one slot's record within its bounds, landing, freeing and allocation. -/
theorem stepsKeepTheSlotTable : Obligations.StepsKeepTheSlotTable := by
  unfold Obligations.StepsKeepTheSlotTable
  intro s t h ht
  obtain rfl | ⟨rest, left⟩ := step_leaves ht
  · exact h
  · have waiting : SlotTableLegal { s with pending := rest } := h.of_table rfl rfl
    exact waiting.command left

end Sys2Proof.Machine
end

section
/-! PROOF. Live slots agree with the configuration in force under each operation; and so under every step (O60). -/

namespace Sys2Proof.Machine

/-! ### Records that stay as the configuration has them -/

/-- What O60 asks of a record, carried from `x` to `y`: live it has the window, rung, duration and expected bytes of `x` live, and
an advised rung of its own lies below its rung. -/
structure RecordFrom (x y : Slot) : Prop where
  live : y.state.live = true → x.state.live = true ∧ y.base = x.base ∧ y.capacity = x.capacity ∧ y.rung = x.rung
    ∧ y.duration = x.duration ∧ y.expected = x.expected
  advised : ∀ k, y.advisedRung = some k → k < y.rung ∨ x.advisedRung = some k ∧ y.rung = x.rung

theorem RecordFrom.refl (x : Slot) : RecordFrom x x := ⟨fun h => ⟨h, rfl, rfl, rfl, rfl, rfl⟩, fun _ h => .inr ⟨h, rfl⟩⟩

theorem RecordFrom.trans {x y z : Slot} (h : RecordFrom x y) (k : RecordFrom y z) : RecordFrom x z where
  live hz := by
    obtain ⟨hy, base, capacity, rung, duration, expected⟩ := k.live hz
    obtain ⟨hx, base', capacity', rung', duration', expected'⟩ := h.live hy
    exact ⟨hx, base.trans base', capacity.trans capacity', rung.trans rung', duration.trans duration', expected.trans expected'⟩
  advised r hr := by
    obtain below | ⟨hy, rung⟩ := k.advised r hr
    · exact .inl below
    · obtain below | ⟨hx, rung'⟩ := h.advised r hy
      · exact .inl (rung ▸ below)
      · exact .inr ⟨hx, rung.trans rung'⟩

theorem recordFrom_empty (x : Slot) : RecordFrom x Slot.empty := ⟨nofun, nofun⟩

/-- A record of the same window, rung, duration and expected bytes, live only if the old one is, with no new advice. -/
theorem recordFrom_of_eq {x y : Slot} (live : y.state.live = true → x.state.live = true)
    (same : y.base = x.base ∧ y.capacity = x.capacity ∧ y.rung = x.rung ∧ y.duration = x.duration ∧ y.expected = x.expected)
    (advised : y.advisedRung = x.advisedRung) : RecordFrom x y :=
  ⟨fun h => ⟨live h, same⟩, fun _ h => .inr ⟨advised ▸ h, same.2.2.1⟩⟩

/-- `t` has the page, the adopted WINDOWS and the ladder of `s`, and every slot record as O60 carries it. -/
structure SlotsFrom (s t : State) : Prop where
  pif : t.pif = s.pif
  windows : t.ccu.adoptedWindows = s.ccu.adoptedWindows
  ladder : t.ccu.adoptedLadder = s.ccu.adoptedLadder
  slot : ∀ n, RecordFrom (s.slot n) (t.slot n)

theorem SlotsFrom.refl (s : State) : SlotsFrom s s := ⟨rfl, rfl, rfl, fun _ => .refl _⟩

theorem SlotsFrom.trans {s t u : State} (h : SlotsFrom s t) (k : SlotsFrom t u) : SlotsFrom s u :=
  ⟨k.pif.trans h.pif, k.windows.trans h.windows, k.ladder.trans h.ladder, fun n => (h.slot n).trans (k.slot n)⟩

theorem SameTable.slotsFrom {s t : State} (h : SameTable s t) : SlotsFrom s t :=
  ⟨h.pif, h.windows, h.ladder, fun n => by rw [h.slot]; exact .refl _⟩

theorem slotsFrom_setSlot (s : State) {n : Fin 8} {x : Slot} (h : RecordFrom (s.slot n) x) : SlotsFrom s (s.setSlot n x) := by
  refine ⟨rfl, rfl, rfl, fun m => ?_⟩
  rw [State.slot_setSlot]
  split
  · rename_i hm; rw [hm]; exact h
  · exact .refl _

/-- Queue and timers are not part of what O60 asks. -/
theorem SlotsFrom.of_slots {s t u : State} (h : SlotsFrom s t) (pif : u.pif = t.pif) (ccu : u.ccu = t.ccu)
    (slots : u.stu.slots = t.stu.slots) : SlotsFrom s u :=
  h.trans ⟨pif, by rw [ccu], by rw [ccu], fun n => by
    have same : u.slot n = t.slot n := congrArg (fun v : Vector Slot 8 => v[n]) slots
    rw [same]; exact .refl _⟩

theorem anyLive_eq_false {s : State} : s.anyLive = false ↔ ∀ n, ¬ (s.slot n).state.live = true := by
  rw [State.anyLive, List.any_eq_false]
  exact ⟨fun h n => h n (mem_allSlots n), fun h n _ => h n⟩

/-- Records carried over agree with the configuration as they did. -/
theorem SlotsAgree.slotsFrom {s t : State} (h : SlotsAgree s) (k : SlotsFrom s t) : SlotsAgree t where
  reset hr := by
    rw [k.pif] at hr
    obtain ⟨none, idle⟩ := h.reset hr
    exact ⟨k.windows.trans none, anyLive_eq_false.2 (fun n hn => anyLive_eq_false.1 idle n ((k.slot n).live hn).1)⟩
  bounds w hw := by
    rw [k.windows] at hw
    rw [State.pageStart, k.pif]
    exact h.bounds w hw
  inside n hn := by
    obtain ⟨hs, base, capacity, -⟩ := (k.slot n).live hn
    rw [base, capacity, k.windows]
    exact h.inside n hs
  onLadder n hn := by
    obtain ⟨hs, -, -, rung, duration, expected⟩ := (k.slot n).live hn
    rw [rung, duration, expected, State.ladder, k.ladder]
    exact h.onLadder n hs
  advisedBelow n r hr := by
    obtain below | ⟨hs, rung⟩ := (k.slot n).advised r hr
    · exact below
    · rw [rung]; exact h.advisedBelow n r hs

theorem SlotsAgree.sameTable {s t : State} (h : SlotsAgree s) (k : SameTable s t) : SlotsAgree t := h.slotsFrom k.slotsFrom

/-! ### Slots freed, landed, filled, drained (R38 to R54) -/

theorem slotsFrom_freeSlot (s : State) (n : Fin 8) : SlotsFrom s (freeSlot s n) :=
  (slotsFrom_setSlot s (recordFrom_empty _)).of_slots rfl rfl rfl

theorem slotsFrom_land {s : State} {n : Fin 8} (live : (s.slot n).state.live = true) : SlotsFrom s (land s n) := by
  have record (state : SlotState) : RecordFrom (s.slot n) { (s.slot n).landedRecord with state := state } :=
    ⟨fun _ => ⟨live, rfl, rfl, rfl, rfl, rfl⟩, nofun⟩
  have table : SlotsFrom s (landedTable s n) := (slotsFrom_setSlot s (record .landed)).of_slots rfl rfl rfl
  obtain ⟨-, ht⟩ | ⟨-, -, ht⟩ | ht := land_table s n
  · exact table.trans ht.slotsFrom
  · refine SlotsFrom.trans ?_ ht.slotsFrom
    refine (slotsFrom_setSlot s (record .draining)).of_slots rfl rfl ?_
    simp [landedTable, State.setSlot, State.setQueue, State.setTimers]
  · exact (table.trans (slotsFrom_freeSlot _ n)).trans ht.slotsFrom

theorem slotsFrom_landIfFull {s : State} {n : Fin 8} (live : (s.slot n).state.live = true) : SlotsFrom s (landIfFull s n) := by
  unfold landIfFull
  split
  · exact slotsFrom_land live
  · exact .refl s

theorem slotsFrom_fillObservation (s : State) (n : Fin 8) (low fillEnd : Nat) :
    SlotsFrom s (fillObservation s n low fillEnd) := by
  rw [fillObservation_eq]
  split
  · rename_i counted
    rw [Bool.and_eq_true] at counted
    have live := SlotState.live_of_unlanded counted.1
    have filled : SlotsFrom s (countedFill s n fillEnd) :=
      (slotsFrom_setSlot s (x := (s.slot n).filled fillEnd s.now s.setup.gapLimit)
        (recordFrom_of_eq (fun _ => live) ⟨rfl, rfl, rfl, rfl, rfl⟩ rfl)).of_slots rfl rfl rfl
    exact filled.trans (slotsFrom_landIfFull (by simpa [countedFill] using live_filled live fillEnd s.now s.setup.gapLimit))
  · exact .refl s

theorem slotsFrom_drainObservation (s : State) (n : Fin 8) (drainEnd : Nat) : SlotsFrom s (drainObservation s n drainEnd) := by
  unfold drainObservation
  split
  · have moved (early : Bool) : SlotsFrom s (s.setSlot n { s.slot n with
        drainMark := max (s.slot n).drainMark (min drainEnd (s.slot n).fillMark), earlyUnderrun := early }) :=
      slotsFrom_setSlot s (recordFrom_of_eq id ⟨rfl, rfl, rfl, rfl, rfl⟩ rfl)
    unfold drainUnlanded
    dsimp only
    split
    · exact (moved true).of_slots rfl rfl rfl
    · exact moved _
  split
  · rename_i landed
    obtain ht | ⟨-, -, ht⟩ | ht := drainLanded_table s n drainEnd
    · rw [ht]; exact .refl s
    · refine SlotsFrom.trans (slotsFrom_setSlot s ?_) ht.slotsFrom
      exact recordFrom_of_eq (fun _ => SlotState.live_of_hasLanded landed) ⟨rfl, rfl, rfl, rfl, rfl⟩ rfl
    · exact (slotsFrom_freeSlot s n).trans ht.slotsFrom
  · exact .refl s

theorem recordFrom_withLength (x : Slot) (v : Nat) : RecordFrom x (x.withLength v) := by
  unfold Slot.withLength
  split
  · exact recordFrom_of_eq id ⟨rfl, rfl, rfl, rfl, rfl⟩ rfl
  · split <;> exact recordFrom_of_eq id ⟨rfl, rfl, rfl, rfl, rfl⟩ rfl

theorem slotsFrom_declareLength {s : State} {n : Fin 8} (live : (s.slot n).state.live = true) (v : Nat) :
    SlotsFrom s (declareLength s n v) := by
  have marked := slotsFrom_setSlot s (recordFrom_withLength (s.slot n) v)
  have stillLive : ((s.setSlot n ((s.slot n).withLength v)).slot n).state.live = true := by
    rw [State.slot_setSlot_same, state_withLength]; exact live
  unfold declareLength
  dsimp only
  split
  · have flagged := marked.of_slots (u := raiseFlag (s.setSlot n ((s.slot n).withLength v)) .overfill) rfl rfl rfl
    exact flagged.trans (slotsFrom_landIfFull stillLive)
  · exact marked.trans (slotsFrom_landIfFull stillLive)

/-! ### Expiries and time (R87, R120 to R126) -/

/-- The candidate below a rung above 0 lies below it (R87). -/
theorem candidateBelow_lt (l : Ladder) (limit : Nat) {j : Nat} (h : 0 < j) : candidateBelow l limit j < j := by
  induction j with
  | zero => nomatch h
  | succ k ih =>
    unfold candidateBelow
    split
    · exact Nat.lt_succ_self k
    · rcases Nat.eq_zero_or_pos k with rfl | hk
      · exact Nat.zero_lt_one
      · exact (ih hk).trans (Nat.lt_succ_self k)

theorem slotsFrom_advise {s : State} {n : Fin 8} (live : (s.slot n).state.live = true) (rung : 0 < (s.slot n).rung) :
    SlotsFrom s (advise s n) := by
  have record : RecordFrom (s.slot n)
      { s.slot n with state := .advised, advisedRung := some (replacementRung s (s.slot n)) } := by
    refine ⟨fun _ => ⟨live, rfl, rfl, rfl, rfl, rfl⟩, fun k hk => .inl ?_⟩
    rw [← Option.some.inj hk]
    exact candidateBelow_lt _ _ rung
  exact (slotsFrom_setSlot s record).of_slots rfl rfl rfl

theorem rung_pos_of_adviceAllowed {s : State} {x : Slot} (h : adviceAllowed s x = true) : 0 < x.rung := by
  simp only [adviceAllowed, Bool.and_eq_true, decide_eq_true_eq] at h
  exact h.2

theorem slotsFrom_checkExpires (s : State) (n : Fin 8) : SlotsFrom s (checkExpires s n) := by
  have timed (y : SlotTimers) : SlotsFrom s (s.setTimers n y) := (SlotsFrom.refl s).of_slots rfl rfl rfl
  unfold checkExpires
  dsimp only
  split
  · rename_i filling
    split
    · rename_i late
      rw [Bool.and_eq_true] at late
      exact slotsFrom_advise (live_of_issued_or_filling (.inr filling)) (rung_pos_of_adviceAllowed late.2)
    · exact timed _
  · exact timed _

theorem slotsFrom_stallExpires (s : State) (n : Fin 8) : SlotsFrom s (stallExpires s n) := by
  have marked : SlotsFrom s (reportEvent ((s.setTimers n { s.timers n with stall := none }).setSlot n
      { s.slot n with stalled := true }) .stall .stalls) :=
    (slotsFrom_setSlot s (x := { s.slot n with stalled := true })
      (recordFrom_of_eq id ⟨rfl, rfl, rfl, rfl, rfl⟩ rfl)).of_slots rfl rfl rfl
  unfold stallExpires
  dsimp only
  split
  · rename_i advised
    simp only [Bool.and_eq_true, Bool.or_eq_true, decide_eq_true_eq] at advised
    refine marked.trans (slotsFrom_advise ?_ ?_)
    · simpa using live_of_issued_or_filling advised.1
    · simpa using rung_pos_of_adviceAllowed advised.2
  · exact marked

theorem slotsFrom_graceExpires (s : State) (n : Fin 8) : SlotsFrom s (graceExpires s n) :=
  (SlotsFrom.refl s).of_slots rfl rfl rfl

theorem slotsFrom_slotExpiries (s : State) (n : Fin 8) : SlotsFrom s (slotExpiries s n) := by
  have stall : SlotsFrom s (stallIfDue s n) := by
    unfold stallIfDue
    split
    · exact slotsFrom_stallExpires s n
    · exact .refl s
  have check (t : State) : SlotsFrom t (checkIfDue t n) := by
    unfold checkIfDue
    split
    · exact slotsFrom_checkExpires t n
    · exact .refl t
  have grace (t : State) : SlotsFrom t (graceIfDue t n) := by
    unfold graceIfDue
    split
    · exact slotsFrom_graceExpires t n
    · exact .refl t
  exact (stall.trans (check _)).trans (grace _)

theorem slotsFrom_takeDueExpiries (s : State) : SlotsFrom s (takeDueExpiries s) :=
  List.foldlRecOn allSlots slotExpiries (motive := SlotsFrom s) (sameTable_settleExpiries s).slotsFrom
    (fun _ ht n _ => ht.trans (slotsFrom_slotExpiries _ n))

theorem slotsFrom_tickTime (s : State) : SlotsFrom s (tickTime s) := by
  refine ⟨rfl, rfl, rfl, fun n => ?_⟩
  rw [tickTime_slot, afterTick_eq]
  exact recordFrom_of_eq id ⟨rfl, rfl, rfl, rfl, rfl⟩ rfl

theorem slotsFrom_refclkTime (s : State) : SlotsFrom s (refclkTime s) := by
  unfold refclkTime
  split
  · exact SameTable.slotsFrom ⟨rfl, rfl, rfl, rfl, rfl⟩
  · exact slotsFrom_tickTime s

/-! ### Decisions (R97 to R111) -/

/-- A slot allocated in an armed session for a valid request, at a rung of the capacity fit (R37, R85, R99, R105, R106). -/
theorem SlotsAgree.allocate {s : State} (h : SlotsAgree s) (session : SessionLegal s) (armed : s.sc.governor.armed = true)
    {q : Request} (valid : requestValid s.windows q = true) {rung k e : Nat}
    (fit : capacityFit s.ladder q.duration q.capacity (capRung s rung) = some (k, e)) (n : Fin 8) :
    SlotsAgree (allocate s n q k e) := by
  obtain ⟨-, ladder, windows⟩ := session.adopted (Governor.ne_dormant_of_armed armed)
  obtain ⟨w, hw⟩ := Option.isSome_iff_exists.1 windows
  obtain ⟨l, hl⟩ := Option.isSome_iff_exists.1 ladder
  obtain ⟨-, -, -, cap, -, low, high⟩ := (requestValid_iff _ _).1 valid
  have inForce : s.windows = w := by rw [State.windows, hw]; rfl
  rw [inForce] at cap low high
  have count : 1 ≤ rungCount s.ladder := by rw [State.ladder, hl]; exact (session.ladder l hl).count.1
  obtain ⟨below, bytes, -, -⟩ := capacityFit_some fit
  have onLadder : k < rungCount s.ladder := by
    have capped : capRung s rung ≤ rungCount s.ladder - 1 := (min_le_right _ _).trans (min_le_right _ _)
    omega
  have slot (m : Fin 8) : (Machine.allocate s n q k e).slot m = if m = n then issuedSlot q k e s.now else s.slot m :=
    State.slot_setSlot s n m _
  constructor
  case reset =>
    intro hr
    rw [(h.reset hr).1] at hw
    nomatch hw
  case bounds => exact h.bounds
  case inside =>
    intro m hm
    rw [slot] at hm ⊢
    split at hm
    · rename_i same
      rw [if_pos same]
      exact ⟨w, hw, low, high, cap⟩
    · rename_i other
      rw [if_neg other]
      exact h.inside m hm
  case onLadder =>
    intro m hm
    rw [slot] at hm ⊢
    split at hm
    · rename_i same
      rw [if_pos same]
      exact ⟨onLadder, bytes⟩
    · rename_i other
      rw [if_neg other]
      exact h.onLadder m hm
  case advisedBelow =>
    intro m r hr
    rw [slot] at hr ⊢
    split at hr
    · nomatch hr
    · rename_i other
      rw [if_neg other]
      exact h.advisedBelow m r hr

theorem SlotsAgree.capFitGo {s : State} (h : SlotsAgree s) (session : SessionLegal s) (armed : s.sc.governor.armed = true)
    {q : Request} (valid : requestValid s.windows q = true) (rung : Nat) : SlotsAgree (capFitGo s q rung).2 := by
  obtain ⟨-, hd⟩ | ⟨n, -, -, hd⟩ | ⟨n, k, e, -, fit, hd⟩ := capFitGo_cases s q rung
  · rw [hd]; exact h.sameTable ⟨rfl, rfl, rfl, rfl, rfl⟩
  · rw [hd]; exact h.sameTable ⟨rfl, rfl, rfl, rfl, rfl⟩
  · rw [hd]; exact (h.allocate session armed valid fit n).sameTable (sameTable_noteRung _ k)

theorem SlotsAgree.decideFetch {s : State} (h : SlotsAgree s) (session : SessionLegal s) (q : Request) :
    SlotsAgree (decideFetch s q).2 := by
  obtain same | ⟨armed, valid, -, -, hd⟩ := decideFetch_table s q
  · exact h.sameTable same
  · rw [hd]; exact h.capFitGo session armed valid _

theorem slotsFrom_decideLength (s : State) (q : Request) : SlotsFrom s (decideLength s q).2 := by
  unfold decideLength
  split
  · exact SameTable.slotsFrom ⟨rfl, rfl, rfl, rfl, rfl⟩
  split
  · exact .refl s
  rename_i n holding
  split
  · exact .refl s
  split
  · exact .refl s
  · exact slotsFrom_declareLength (liveHolding_eq_some.1 holding).1.1 _

theorem slotsFrom_decideDrop (s : State) (q : Request) : SlotsFrom s (decideDrop s q).2 := by
  unfold decideDrop
  split
  · exact .refl s
  · exact slotsFrom_freeSlot s _

theorem SlotsAgree.decideReplace {s : State} (h : SlotsAgree s) (session : SessionLegal s) (q : Request) :
    SlotsAgree (decideReplace s q).2 := by
  obtain same | ⟨n, armed, -, -, hd⟩ := decideReplace_table s q
  · exact h.sameTable same
  have freed := h.slotsFrom (slotsFrom_freeSlot s n)
  rw [hd]
  obtain same | ⟨valid, -, rung, hd⟩ := decideRefetch_table (freeSlot s n) q (s.slot n)
  · exact freed.sameTable same
  · rw [hd]; exact freed.capFitGo (session.freeSlot n) armed valid rung

theorem SlotsAgree.decideRequest {s : State} (h : SlotsAgree s) (session : SessionLegal s) (q : Request) :
    SlotsAgree (decideRequest s q).2 := by
  unfold Machine.decideRequest
  split
  · exact h.decideFetch session q
  split
  · exact h.slotsFrom (slotsFrom_decideLength s q)
  split
  · exact h.slotsFrom (slotsFrom_decideDrop s q)
  split
  · exact h.decideReplace session q
  · exact h.sameTable ⟨rfl, rfl, rfl, rfl, rfl⟩

theorem SlotsAgree.requestRun {s : State} (h : SlotsAgree s) (session : SessionLegal s) (k : Fin 16) (bytes : List (Nat × Byte)) :
    SlotsAgree (requestRun s k bytes) := by
  have latched {t : State} (ht : SlotsAgree t) (x : Ticket) : SlotsAgree (t.setTicket k x) :=
    ht.sameTable ⟨rfl, rfl, rfl, rfl, rfl⟩
  have shadowed : SlotsAgree (shadowRequest s k bytes) := latched h _
  have legal : SessionLegal (shadowRequest s k bytes) := session.setTicket k _
  unfold Machine.requestRun closeTicket
  dsimp only
  split
  · split
    · exact latched shadowed _
    split
    · exact shadowed
    · exact latched (shadowed.decideRequest legal _) _
  · exact shadowed

/-! ### Control records, directives and resets -/

theorem not_live_of_table {s t : State} (stu : t.stu = s.stu) (idle : s.anyLive = false) (n : Fin 8) :
    ¬ (t.slot n).state.live = true := by
  rw [State.slot, stu]
  exact anyLive_eq_false.1 idle n

/-- With no slot live it is enough that the WINDOWS adopted lie off the page, and that none are adopted under an asserted RST. -/
theorem SlotsAgree.of_idle {s : State} (idle : ∀ n, ¬ (s.slot n).state.live = true)
    (reset : s.pif.resetAsserted = true → s.ccu.adoptedWindows = none)
    (bounds : ∀ w, s.ccu.adoptedWindows = some w → boundsShape s.pageStart w.low w.high = true)
    (advised : ∀ n k, (s.slot n).advisedRung = some k → k < (s.slot n).rung) : SlotsAgree s where
  reset hr := ⟨reset hr, anyLive_eq_false.2 idle⟩
  bounds := bounds
  inside n hn := absurd hn (idle n)
  onLadder n hn := absurd hn (idle n)
  advisedBelow := advised

theorem SlotsAgree.of_emptied {s t : State} (h : SlotsAgree s) (k : Emptied s t) : SlotsAgree t := by
  refine .of_idle (not_live_of_emptied k.stu) (fun hr => ?_) (fun w hw => ?_) (fun n r hr => ?_)
  · rw [k.pif] at hr
    obtain same | none := k.windows
    · exact same.trans (h.reset hr).1
    · exact none
  · rw [State.pageStart, k.pif]
    obtain same | none := k.windows
    · exact h.bounds w (same ▸ hw)
    · rw [none] at hw; nomatch hw
  · rw [slot_of_emptied k.stu] at hr; nomatch hr

/-- New WINDOWS, or a new ladder, taken with RST released while no slot is live (R82, R141). -/
theorem SlotsAgree.of_reconfigured {s t : State} (h : SlotsAgree s) (released : s.pif.resetAsserted = false)
    (k : Reconfigured s t) : SlotsAgree t := by
  have slot (n : Fin 8) : t.slot n = s.slot n := congrArg (fun u : Stu => u.slots[n]) k.stu
  refine .of_idle (not_live_of_table k.stu k.idle) (fun hr => ?_) (fun w hw => ?_) (fun n r hr => ?_)
  · rw [k.pif, released] at hr; nomatch hr
  · rw [State.pageStart, k.pif]
    obtain same | ⟨w', hw', shape⟩ := k.windows
    · exact h.bounds w (same ▸ hw)
    · rw [hw'] at hw
      exact Option.some.inj hw ▸ shape
  · rw [slot] at hr ⊢; exact h.advisedBelow n r hr

theorem SlotsAgree.controlTable {s t : State} (h : SlotsAgree s) (released : s.pif.resetAsserted = false)
    (k : ControlTable s t) : SlotsAgree t := by
  obtain k | k | k := k
  · exact h.sameTable k
  · exact h.of_emptied k
  · exact h.of_reconfigured released k

theorem SlotsAgree.takeEntry {s : State} (h : SlotsAgree s) (code : Byte) (argument : BitVec 32) (entry : Nat) :
    SlotsAgree (takeEntry s code argument entry) := by
  obtain k | k := takeEntry_table s code argument entry
  · exact h.sameTable k
  · exact h.of_emptied k

/-- At the release of RST no slot is live and no WINDOWS are adopted, whatever page base is sampled then (R20, R32). -/
theorem SlotsAgree.releaseReset {s : State} (h : SlotsAgree s) (asserted : s.pif.resetAsserted = true) (pageBase : BitVec 28)
    (prescaler : BitVec 16) (revision : Byte) : SlotsAgree (releaseReset s pageBase prescaler revision) := by
  obtain ⟨none, idle⟩ := h.reset asserted
  have sampled : SlotsAgree { s with
      pif := { resetAsserted := false, pageBase := pageBase }, tb := { s.tb with prescaler := prescaler.toNat }
      eru := { s.eru with revision := revision } } :=
    .of_idle (anyLive_eq_false.1 idle) (fun _ => none)
      (fun w (hw : s.ccu.adoptedWindows = some w) => by rw [none] at hw; nomatch hw) h.advisedBelow
  exact sampled.sameTable (sameTable_takeSnapshot _)

/-! ### Runs and commands -/

/-- A legal session with RST released whose slots agree with the configuration: what each run of an observation finds. -/
structure Agreeing (s : State) : Prop where
  session : SessionLegal s
  agree : SlotsAgree s
  released : s.pif.resetAsserted = false

theorem Agreeing.takeWriteRun {s : State} (h : Agreeing s) (fills : Bool) (area : Area) (run : List (Nat × Byte)) :
    Agreeing (takeWriteRun fills area run s) := by
  refine ⟨h.session.takeWriteRun fills area run, ?_, by rw [(kept_takeWriteRun fills area run s).pif]; exact h.released⟩
  cases area
  case control p => exact h.agree.controlTable h.released (controlRun_table s p _)
  case request k => exact h.agree.requestRun h.session k _
  case window n =>
    simp only [Machine.takeWriteRun]
    split
    · exact h.agree.slotsFrom (slotsFrom_fillObservation s n _ _)
    · exact h.agree
  all_goals exact h.agree

theorem slotsFrom_takeReadRun (drains : Bool) (area : Area) (run : List (Nat × Byte)) (s : State) :
    SlotsFrom s (takeReadRun drains area run s) := by
  cases area
  case window n =>
    simp only [takeReadRun]
    split
    · exact slotsFrom_drainObservation s n _
    · exact .refl s
  all_goals exact .refl s

theorem slotsFrom_readReleased (s : State) (r : ReadResponse) : SlotsFrom s (readReleased s r) := by
  have snapshot (bytes : List (Nat × Byte)) : SlotsFrom s (snapshotIfHeader s bytes) := by
    unfold snapshotIfHeader
    split
    · exact (sameTable_takeSnapshot s).slotsFrom
    · exact .refl s
  have returned (t : State) (data : List Byte) : SlotsFrom t (returnRead t r data) :=
    SameTable.slotsFrom ⟨rfl, rfl, rfl, rfl, rfl⟩
  unfold readReleased
  split
  · exact returned s _
  · have observed : SlotsFrom s (observeRead s r) :=
      handRuns_keeps (P := SlotsFrom s) (fun _ _ t ht => ht.trans (slotsFrom_takeReadRun _ _ _ t)) _ _ (snapshot _)
    exact observed.trans (returned _ _)

theorem slotsFrom_readTransaction (s : State) (r : ReadResponse) : SlotsFrom s (readTransaction s r) := by
  unfold readTransaction
  split
  · exact SameTable.slotsFrom ⟨rfl, rfl, rfl, rfl, rfl⟩
  · exact (slotsFrom_takeDueExpiries s).trans (slotsFrom_readReleased _ r)

/-- An event taken with RST released finds the slots in agreement, the due expiries being taken (R34). -/
theorem SlotsAgree.whenReleased {s : State} (h : SlotsAgree s) (session : SessionLegal s) {event : State → State}
    (he : ∀ t, Agreeing t → SlotsAgree (event t)) : SlotsAgree (whenReleased s event) := by
  unfold Machine.whenReleased
  split
  · exact h
  · rename_i released
    refine he _ ⟨session.takeDueExpiries, h.slotsFrom (slotsFrom_takeDueExpiries s), ?_⟩
    rw [(kept_takeDueExpiries s).pif]
    simpa using released

theorem SlotsAgree.writeTransaction {s : State} (h : SlotsAgree s) (session : SessionLegal s) (w : BusWrite) :
    SlotsAgree (writeTransaction s w) :=
  SlotsAgree.whenReleased (h.sameTable (t := forwardWrite s w) ⟨rfl, rfl, rfl, rfl, rfl⟩) (session.forwardWrite w)
    (fun _ ht => (handRuns_keeps (P := Agreeing) (fun _ _ _ hu => hu.takeWriteRun _ _ _) _ _ ht).agree)

theorem slotsFrom_expiryStep {s : State} (due : State → Bool) {event : State → State} (he : SlotsFrom s (event s)) :
    SlotsFrom s (expiryStep s due event) := by
  unfold expiryStep
  split
  · exact .refl s
  · split
    · exact he
    · exact .refl s

/-- Every command keeps live slots in agreement with the configuration in force. -/
theorem SlotsAgree.command {s t : State} (h : SlotsAgree s) (session : SessionLegal s) (k : CommandLeaves s t) : SlotsAgree t := by
  have released {event : State → State} (he : ∀ u, SlotsAgree u → SlotsAgree (event u)) :
      SlotsAgree (Machine.whenReleased s event) := h.whenReleased session (fun u hu => he u hu.agree)
  cases k with
  | idle => exact h
  | write w => exact h.writeTransaction session w
  | read r => exact h.slotsFrom (slotsFrom_readTransaction s r)
  | assertReset => exact slotsAgree_reset.sameTable (t := assertReset s) ⟨rfl, rfl, rfl, rfl, rfl⟩
  | releaseReset asserted pageBase prescaler revision => exact h.releaseReset asserted pageBase prescaler revision
  | tick => exact released (fun u hu => hu.slotsFrom (slotsFrom_tickTime u))
  | refclkPeriod => exact released (fun u hu => hu.slotsFrom (slotsFrom_refclkTime u))
  | entry code argument entry => exact released (fun _ hu => hu.takeEntry code argument entry)
  | restart => exact released (fun u hu => hu.of_emptied (emptied_takeRestart u))
  | unknownEntry code entry => exact released (fun _ hu => hu.sameTable ⟨rfl, rfl, rfl, rfl, rfl⟩)
  | settleExpiry p => exact h.slotsFrom (slotsFrom_expiryStep _ (sameTable_settleExpires s p).slotsFrom)
  | stallExpiry n => exact h.slotsFrom (slotsFrom_expiryStep _ (slotsFrom_stallExpires s n))
  | checkExpiry n => exact h.slotsFrom (slotsFrom_expiryStep _ (slotsFrom_checkExpires s n))
  | graceExpiry n => exact h.slotsFrom (slotsFrom_expiryStep _ (slotsFrom_graceExpires s n))

/-- Settles O60. Records are carried over by all but allocation, which takes window and rung from the configuration in force; and
the configuration changes only while no slot is live. -/
theorem stepsKeepSlotsInAgreement : Obligations.StepsKeepSlotsInAgreement := by
  unfold Obligations.StepsKeepSlotsInAgreement
  intro s t session h ht
  obtain rfl | ⟨rest, left⟩ := step_leaves ht
  · exact h
  · have legal : SessionLegal { s with pending := rest } := { session with }
    have agree : SlotsAgree { s with pending := rest } := h.sameTable ⟨rfl, rfl, rfl, rfl, rfl⟩
    exact agree.command legal left

end Sys2Proof.Machine
end

section
/-! PROOF. Requests answered: DROP (O33), LENGTH (O31), FETCH (O26) and REPLACE (O34). -/

namespace Sys2Proof.Machine

/-! ### What a request's decision leaves (R92, R93) -/

/-- A closing write that brings a request leaves what the decision leaves, its answer latched under the request's stamp. -/
theorem exec_of_brings {s t : State} {k : Fin 16} {w : BusWrite} {q : Request} {c : Instr} {v : Verdict} (hc : writeOf c = some w)
    (h : s.brings k w q = true) (decided : decideRequest (s.shadowed k w) q = (v, t))
    (tickets : t.vu.tickets = (s.shadowed k w).vu.tickets) :
    exec c s = .next { t with vu := { t.vu with
      tickets := s.vu.tickets.set k { stamp := q.stamp, verdict := some v, shadow := s.requestAfter k w } } } := by
  have latched : t.ticket k = { s.ticket k with shadow := s.requestAfter k w } := by
    rw [← shadowed_ticket, State.ticket, tickets]; rfl
  rw [exec_of_writeOf hc, writeTransaction_brings h, decided]
  simp only [latch, State.setTicket, latched, tickets]
  simp [State.shadowed]

/-- Settles O33. -/
theorem dropFreesTheSlot : Obligations.DropFreesTheSlot := by
  unfold Obligations.DropFreesTheSlot
  intro s k w q h kind answered
  have byKind : decideRequest (s.shadowed k w) q = decideDrop (s.shadowed k w) q := by
    simp [decideRequest, kind]
  refine ⟨fun n live segment lowest => ?_, fun absent => ?_⟩
  · have holding : (s.shadowed k w).liveHolding q.segment = some n :=
      liveHolding_eq_some.2 ⟨⟨live, segment⟩, fun m hm hq => lowest m hm hq.1 hq.2⟩
    have decided : decideDrop (s.shadowed k w) q =
        (namingVerdict (s.shadowed k w) .done q.stamp n (s.slot n).rung, freeSlot (s.shadowed k w) n) := by
      rw [decideDrop, holding]; rfl
    rw [exec_of_brings rfl h (byKind.trans decided) rfl]
    rfl
  · have holding : (s.shadowed k w).liveHolding q.segment = none :=
      liveHolding_eq_none.2 (fun m hq => absent m hq.1 hq.2)
    have decided : decideDrop (s.shadowed k w) q = (plainVerdict (s.shadowed k w) .unknown q.stamp, s.shadowed k w) := by
      rw [decideDrop, holding]
    rw [exec_of_brings rfl h (byKind.trans decided) rfl]
    rfl

/-! ### GO (R105 to R107) -/

/-- The current rung, the dwell count and SWITCH with its tallies after a GO, as one change of the state (R107). -/
theorem noteRung_eq (s : State) (rung : Nat) :
    let r := s.vu.currentRung
    noteRung s rung = { s with
      vu := { s.vu with currentRung := rung, dwell := if rung = r then min (s.vu.dwell + 1) 255 else 1 }
      eru := { s.eru with
        flags := if rung = r then s.eru.flags else s.eru.flags ||| 0x020
        tallies := { s.eru.tallies with
          upSwitches :=
            if r < rung then min (s.eru.tallies.upSwitches + 1) (2 ^ 32 - 1) else s.eru.tallies.upSwitches
          downSwitches :=
            if rung < r then min (s.eru.tallies.downSwitches + 1) (2 ^ 32 - 1) else s.eru.tallies.downSwitches } } } := by
  unfold noteRung
  dsimp only
  rcases Nat.lt_trichotomy rung s.vu.currentRung with down | same | up
  · simp only [if_neg down.ne, if_neg (Nat.lt_asymm down), if_pos down]
    rfl
  · simp only [same, if_true, lt_irrefl, if_false]
    rfl
  · simp only [if_neg up.ne', if_pos up, if_neg (Nat.lt_asymm up)]
    rfl

/-- A window apart from every live slot's overlaps none (R100). -/
theorem overlapping_of_apart {s : State} {q : Request} (h : ∀ m : Fin 8, (s.slot m).state.live = true →
    (s.slot m).base + (s.slot m).capacity ≤ q.base ∨ q.base + q.capacity ≤ (s.slot m).base) : s.overlapping q = none := by
  refine overlapping_eq_none.2 (fun m hm => ?_)
  obtain ⟨live, share⟩ := hm
  rw [windowsShare_eq_true] at share
  have := h m live
  omega

/-- The highest fitting rung at or below the capped choice is answered GO in the lowest FREE slot (R105 to R107). -/
theorem capFitGo_go {s : State} {q : Request} {choice rung : Nat} {n : Fin 8} (free : s.lowestFree = some n)
    (capped : rung ≤ min choice (min s.setup.capRung (rungCount s.ladder - 1)))
    (fits : expectedBytes s.ladder rung q.duration ≤ q.capacity)
    (highest : ∀ j, rung < j → j ≤ min choice (min s.setup.capRung (rungCount s.ladder - 1)) →
      q.capacity < expectedBytes s.ladder j q.duration) :
    capFitGo s q choice =
      ({ timedVerdict s .go q.stamp with rung := rung, slot := n.val, expected := expectedBytes s.ladder rung q.duration },
        noteRung (allocate s n q rung (expectedBytes s.ladder rung q.duration)) rung) := by
  have fit : capacityFit s.ladder q.duration q.capacity (capRung s choice)
      = some (rung, expectedBytes s.ladder rung q.duration) := capacityFit_eq capped fits highest
  simp only [capFitGo, free, fit]

theorem Governor.decides_iff (g : Governor) : g.decides = true ↔ g = .warmup ∨ g = .adapting := by
  cases g <;> simp [Governor.decides]

/-- The steps of a FETCH before its rung, all passed (R98 to R102). -/
theorem decideFetch_eq_capFitGo {s : State} {q : Request} (decides : s.sc.governor.decides = true)
    (valid : requestValid s.windows q = true) (segment : s.liveHolding q.segment = none) (window : s.overlapping q = none)
    (free : s.lowestFree.isSome = true) (room : s.bufferLevel < s.setup.bFull) :
    decideFetch s q = capFitGo s q (rungStep s) := by
  have some : s.lowestFree.isNone = false := by rw [← Option.not_isSome, free]; rfl
  obtain go | go := (Governor.decides_iff _).1 decides <;>
    simp [decideFetch, go, valid, segment, window, some, Nat.not_le.2 room]

/-- Settles O26. -/
theorem fetchIsAnsweredGo : Obligations.FetchIsAnsweredGo := by
  unfold Obligations.FetchIsAnsweredGo
  intro s k w q n rung h kind decides valid apart free lowest room capped fits highest r answer latched issued stall
  have segment : (s.shadowed k w).liveHolding q.segment = none :=
    liveHolding_eq_none.2 (fun m hm => (apart m hm.1).1 hm.2)
  have window : (s.shadowed k w).overlapping q = none := overlapping_of_apart (fun m hm => (apart m hm).2)
  have slot : (s.shadowed k w).lowestFree = some n := lowestFree_eq_some.2 ⟨free, lowest⟩
  have decided : decideRequest (s.shadowed k w) q = _ := calc
    decideRequest (s.shadowed k w) q = decideFetch (s.shadowed k w) q := by simp [decideRequest, kind]
    _ = capFitGo (s.shadowed k w) q (rungStep (s.shadowed k w)) :=
      decideFetch_eq_capFitGo decides ((requestValid_iff _ _).2 valid) segment window (by rw [slot]; rfl) room
    _ = _ := capFitGo_go slot capped fits highest
  rw [exec_of_brings rfl h decided (by rw [noteRung_eq]; rfl), noteRung_eq]
  rfl

/-! ### REPLACE (R110, R111) -/

/-- A slot that is not queued is freed with the queue as it was (R51, R54). -/
theorem freeSlot_of_not_queued {s : State} {n : Fin 8} (h : n ∉ s.stu.queue) :
    freeSlot s n = (s.setSlot n Slot.empty).setTimers n SlotTimers.stopped := by
  have kept : s.stu.queue.filter (fun q => decide (q ≠ n)) = s.stu.queue :=
    List.filter_eq_self.2 (fun m hm => by
      rw [decide_eq_true_eq]
      rintro rfl
      exact h hm)
  rw [freeSlot, kept]
  rfl

/-- The buffer level counts queued slots alone (R52). -/
theorem bufferLevel_setSlot {s : State} {n : Fin 8} (h : n ∉ s.stu.queue) (x : Slot) :
    (s.setSlot n x).bufferLevel = s.bufferLevel := by
  have same : ∀ m ∈ s.stu.queue, ((s.setSlot n x).slot m).buffered = (s.slot m).buffered := fun m hm => by
    rw [State.slot_setSlot_other]
    rintro rfl
    exact h hm
  rw [State.bufferLevel, State.bufferLevel, State.setSlot_queue, List.map_congr_left same]

theorem bufferLevel_freeSlot {s : State} {n : Fin 8} (h : n ∉ s.stu.queue) : (freeSlot s n).bufferLevel = s.bufferLevel := by
  rw [freeSlot_of_not_queued h]
  exact bufferLevel_setSlot h Slot.empty

/-- The rung step of a state in which a slot that is not queued is freed (R103, R110). -/
theorem rungStep_freeSlot {s : State} {n : Fin 8} (h : n ∉ s.stu.queue) : rungStep (freeSlot s n) = rungStep s := by
  unfold rungStep adaptingRung
  rw [bufferLevel_freeSlot h]
  rfl

/-- The steps of a REPLACE before its rung, all passed (R110, R111). -/
theorem decideReplace_eq_capFitGo {s : State} {q : Request} {old : Fin 8} (decides : s.sc.governor.decides = true)
    (holding : s.unlandedHolding q.segment = some old) (rung : 1 ≤ (s.slot old).rung)
    (valid : requestValid s.windows q = true) (window : (freeSlot s old).overlapping q = none) :
    decideReplace s q = capFitGo (freeSlot s old) q
      (replacementChoice (rungStep (freeSlot s old)) (s.slot old).advisedRung (s.slot old).rung) := by
  have refetch : decideRefetch (freeSlot s old) q (s.slot old) = capFitGo (freeSlot s old) q
      (replacementChoice (rungStep (freeSlot s old)) (s.slot old).advisedRung (s.slot old).rung) := by
    have valid' : requestValid (freeSlot s old).windows q = true := valid
    simp [decideRefetch, valid', window]
  obtain go | go := (Governor.decides_iff _).1 decides <;>
    simp [decideReplace, go, holding, Nat.ne_of_gt rung, refetch]

/-- Settles O34. -/
theorem replaceIsAnsweredGo : Obligations.ReplaceIsAnsweredGo := by
  unfold Obligations.ReplaceIsAnsweredGo
  intro s k w q old n rung h kind decides unlanded segment first above valid apart free lowest unqueued decision choice limit
    capped fits highest r answer latched issued stall started
  have freed (m : Fin 8) (hm : m ≠ old) : (freeSlot (s.shadowed k w) old).slot m = s.slot m := freeSlot_slot_other _ hm
  have holding : (s.shadowed k w).unlandedHolding q.segment = some old :=
    unlandedHolding_eq_some.2 ⟨⟨unlanded, segment⟩, fun m hm hq => first m hm hq.1 hq.2⟩
  have window : (freeSlot (s.shadowed k w) old).overlapping q = none := overlapping_of_apart (fun m live => by
    by_cases hm : m = old
    · rw [hm, freeSlot_slot_same] at live; nomatch live
    · rw [freed m hm] at live ⊢; exact apart m hm live)
  have slot : (freeSlot (s.shadowed k w) old).lowestFree = some n := by
    refine lowestFree_eq_some.2 ⟨?_, fun m hm => ?_⟩
    · by_cases hn : n = old
      · rw [hn, freeSlot_slot_same]; rfl
      · rw [freed n hn]; exact free.resolve_left hn
    · obtain ⟨other, live⟩ := lowest m hm
      rw [freed m other]; exact live
  have stepped : rungStep (freeSlot (s.shadowed k w) old) = decision := rungStep_freeSlot (s := s.shadowed k w) unqueued
  have answered : { timedVerdict (freeSlot (s.shadowed k w) old) .go q.stamp with
      rung := rung, slot := n.val, expected := expectedBytes s.ladder rung q.duration } = answer := by
    simp only [timedVerdict, deadline, bufferLevel_freeSlot (s := s.shadowed k w) unqueued]
    rfl
  have decided : decideRequest (s.shadowed k w) q = (answer, _) := calc
    decideRequest (s.shadowed k w) q = decideReplace (s.shadowed k w) q := by simp [decideRequest, kind]
    _ = capFitGo (freeSlot (s.shadowed k w) old) q choice := by
      rw [decideReplace_eq_capFitGo (s := s.shadowed k w) decides holding above ((requestValid_iff _ _).2 valid) window, stepped]
      rfl
    _ = _ := (capFitGo_go slot capped fits highest).trans (congrArg (·, _) answered)
  rw [exec_of_brings rfl h decided (by rw [noteRung_eq]; rfl), noteRung_eq, freeSlot_of_not_queued (s := s.shadowed k w) unqueued]
  rfl

/-! ### LENGTH (R41 to R43, R108) -/

/-- The state with another VU: tickets, current rung and dwell count (R89). -/
def State.withVu (s : State) (v : Vu) : State := { s with vu := v }

theorem withVu_ite {s t : State} {c : Prop} [Decidable c] {a b : State} {v : Vu} (ha : s = a.withVu v) (hb : t = b.withVu v) :
    (if c then s else t) = (if c then a else b).withVu v := by
  split
  · exact ha
  · exact hb

theorem takeSample_withVu (s : State) (v : Vu) (x : Sample) : takeSample (s.withVu v) x = (takeSample s x).withVu v := by
  refine withVu_ite rfl ?_
  rw [takePassedSample_eq, takePassedSample_eq]; rfl

/-- A slot's consumption reads nothing of VU (R48). -/
theorem consume_withVu {s t : State} {v : Vu} (h : t = s.withVu v) (n : Fin 8) : consume t n = (consume s n).withVu v := by
  rw [h]
  exact withVu_ite rfl rfl

/-- A landing reads nothing of VU (R44). -/
theorem land_withVu {s t : State} {v : Vu} (h : t = s.withVu v) (n : Fin 8) : land t n = (land s n).withVu v := by
  have read (u : State) : landRead (u.withVu v) n = (landRead u n).withVu v :=
    withVu_ite rfl (withVu_ite (consume_withVu (by rfl) n) rfl)
  have tally (u : State) : growTally (u.withVu v) .landed 1 = (growTally u .landed 1).withVu v := rfl
  have table : landedTable (s.withVu v) n = (landedTable s n).withVu v := rfl
  rw [h, land_eq, table, takeSample_withVu, tally, read]
  rfl

/-- A declared length: its record, OVERFILL if it clamps or is clamped, and a landing if the slot is then full (R40 to R43). -/
theorem declareLength_eq (s : State) (n : Fin 8) (v : Nat) :
    let marked := s.setSlot n ((s.slot n).withLength v)
    let flagged := if (s.slot n).overfills v then raiseFlag marked .overfill else marked
    declareLength s n v =
      if ((s.slot n).withLength v).length = some ((s.slot n).withLength v).fillMark then land flagged n else flagged := by
  have slot : (if (s.slot n).overfills v then raiseFlag (s.setSlot n ((s.slot n).withLength v)) .overfill
      else s.setSlot n ((s.slot n).withLength v)).slot n = (s.slot n).withLength v := by
    split <;> simp
  simp only [declareLength, landIfFull, slot]

theorem declareLength_withVu (s : State) (u : Vu) (n : Fin 8) (v : Nat) :
    declareLength (s.withVu u) n v = (declareLength s n v).withVu u := by
  have flagged : (if (s.slot n).overfills v then raiseFlag ((s.withVu u).setSlot n ((s.slot n).withLength v)) .overfill
      else (s.withVu u).setSlot n ((s.slot n).withLength v)) =
      (if (s.slot n).overfills v then raiseFlag (s.setSlot n ((s.slot n).withLength v)) .overfill
      else s.setSlot n ((s.slot n).withLength v)).withVu u := withVu_ite rfl rfl
  rw [declareLength_eq, declareLength_eq]
  exact withVu_ite (land_withVu flagged n) flagged

theorem declareLength_vu (s : State) (n : Fin 8) (v : Nat) : (declareLength s n v).vu = s.vu := by
  have same := congrArg State.vu (declareLength_withVu s s.vu n v)
  exact same

/-- A value within the capacity and not below the fill mark is the length (R41). -/
theorem declareLength_of_fits {s : State} {n : Fin 8} {v : Nat} (mark : (s.slot n).fillMark ≤ v) (cap : v ≤ (s.slot n).capacity) :
    let marked := s.setSlot n { s.slot n with length := some v }
    declareLength s n v = if v = (s.slot n).fillMark then land marked n else marked := by
  have record : (s.slot n).withLength v = { s.slot n with length := some v } := by
    rw [Slot.withLength, if_neg (Nat.not_lt.2 cap), if_neg (Nat.not_lt.2 mark)]
  have quiet : (s.slot n).overfills v = false := by
    simp [Slot.overfills, cap, mark]
  rw [declareLength_eq, record, quiet]
  simp only [Option.some.injEq, Bool.false_eq_true, if_false]

/-- A value above the capacity: the capacity is the length, with OVERFILL (R42). -/
theorem declareLength_of_over {s : State} {n : Fin 8} {v : Nat} (cap : (s.slot n).capacity < v) :
    let full := raiseFlag (s.setSlot n { s.slot n with length := some (s.slot n).capacity, overfill := true }) .overfill
    declareLength s n v = if (s.slot n).capacity = (s.slot n).fillMark then land full n else full := by
  have record : (s.slot n).withLength v = { s.slot n with length := some (s.slot n).capacity, overfill := true } := by
    rw [Slot.withLength, if_pos cap]
  have flagged : (s.slot n).overfills v = true := by
    simp [Slot.overfills, cap]
  rw [declareLength_eq, record, flagged]
  simp only [Option.some.injEq, if_true]

/-- A value below the fill mark cuts both marks, with OVERFILL, and lands the slot (R43). -/
theorem declareLength_of_below {s : State} {n : Fin 8} {v : Nat} (mark : v < (s.slot n).fillMark) (cap : v ≤ (s.slot n).capacity) :
    declareLength s n v = land (raiseFlag (s.setSlot n { s.slot n with
      length := some v, fillMark := v, drainMark := min (s.slot n).drainMark v, overfill := true }) .overfill) n := by
  have record : (s.slot n).withLength v = { s.slot n with
      length := some v, fillMark := v, drainMark := min (s.slot n).drainMark v, overfill := true } := by
    rw [Slot.withLength, if_neg (Nat.not_lt.2 cap), if_pos mark]
  have flagged : (s.slot n).overfills v = true := by
    simp [Slot.overfills, mark]
  rw [declareLength_eq, record, flagged]
  simp only [if_true]

/-- Settles O31. The length is declared in the state with the write forwarded, whose tickets neither it nor a landing reads. -/
theorem lengthIsDeclared : Obligations.LengthIsDeclared := by
  unfold Obligations.LengthIsDeclared
  intro s k w q n h kind positive unlanded segment apart absent room x v answer latched marked flagged answered
  have holding : (s.shadowed k w).liveHolding q.segment = some n := by
    refine liveHolding_eq_some.2 ⟨⟨SlotState.live_of_unlanded unlanded, segment⟩, fun m hm hq => ?_⟩
    exact apart m hm.ne hq.1 hq.2
  have decided : decideRequest (s.shadowed k w) q =
      (answer, (declareLength (forwardWrite s w) n v).withVu (s.shadowed k w).vu) := by
    have notLanded : ((s.shadowed k w).slot n).state.hasLanded = false := SlotState.hasLanded_of_unlanded unlanded
    have unknown : ((s.shadowed k w).slot n).length = none := absent
    rw [← declareLength_withVu]
    simp only [decideRequest, kind, decideLength, Nat.ne_of_gt positive, holding, notLanded, unknown]
    rfl
  have vu : (declareLength (forwardWrite s w) n v).vu = s.vu := declareLength_vu _ n v
  have declared : exec (.length w) s = .next (answered (declareLength (forwardWrite s w) n v)) := by
    rw [exec_of_brings rfl h decided rfl]
    simp only [answered, vu]
    rfl
  rw [declared]
  refine ⟨fun above within => ?_, fun equal => ?_, fun beyond => ?_, fun below => ?_⟩
  · rw [(declareLength_of_fits (s := forwardWrite s w) above.le within).trans (if_neg above.ne')]
    rfl
  · rw [(declareLength_of_fits (s := forwardWrite s w) equal.le (equal ▸ room)).trans (if_pos equal.symm)]
    rfl
  · rw [declareLength_of_over (s := forwardWrite s w) beyond]
    simp only [eq_comm (a := x.fillMark)]
    rfl
  · rw [declareLength_of_below (s := forwardWrite s w) below (below.le.trans room)]
    rfl

end Sys2Proof.Machine
end

section
/-! PROOF. The buffer level (O54), and the landing of a slot already read (O39). -/

namespace Sys2Proof.Machine

/-! ### The buffer level (R49, R52) -/

/-- No slot is queued twice: segments rise strictly along the queue (R51). -/
theorem SlotTableLegal.queue_nodup {s : State} (h : SlotTableLegal s) : s.stu.queue.Nodup :=
  h.sorted.imp (fun {m n} hlt heq => by rw [heq] at hlt; exact lt_irrefl _ hlt)

/-- A queued slot's duration is at most 20,000 ms (R35). -/
theorem SlotTableLegal.buffered_le {s : State} (h : SlotTableLegal s) {n : Fin 8} (hn : n ∈ s.stu.queue) :
    (s.slot n).buffered ≤ 20000 := by
  have duration := ((h.slot n).live (SlotState.live_of_hasLanded ((h.queue n).1 hn))).2.1
  exact (Nat.sub_le _ _).trans duration

/-- Eight slots of at most 20,000 ms each (R52). -/
theorem SlotTableLegal.bufferLevel_le {s : State} (h : SlotTableLegal s) : s.bufferLevel ≤ 160000 := by
  have few : s.stu.queue.length ≤ 8 := h.queue_nodup.length_le_card
  have level : s.bufferLevel ≤ s.stu.queue.length * 20000 := by
    simpa [State.bufferLevel] using List.sum_le_card_nsmul (s.stu.queue.map (fun n => (s.slot n).buffered)) 20000 (by
      simpa using fun n hn => h.buffered_le hn)
  omega

/-- The buffer level with one queued slot's record replaced: its own part changes, the rest of the queue's stands. -/
theorem bufferLevel_setSlot_of_queued {s : State} {n : Fin 8} (hn : n ∈ s.stu.queue) (nodup : s.stu.queue.Nodup) (x : Slot) :
    (s.setSlot n x).bufferLevel + (s.slot n).buffered = s.bufferLevel + x.buffered := by
  have rest : (s.stu.queue.erase n).map (fun k => ((s.setSlot n x).slot k).buffered)
      = (s.stu.queue.erase n).map (fun k => (s.slot k).buffered) :=
    List.map_congr_left (fun k hk => by rw [State.slot_setSlot_other _ _ _ _ (nodup.mem_erase_iff.1 hk).1])
  have before := List.sum_map_erase (fun k => (s.slot k).buffered) hn
  have after := List.sum_map_erase (fun k => ((s.setSlot n x).slot k).buffered) hn
  rw [rest, State.slot_setSlot_same] at after
  simp only [State.bufferLevel, State.setSlot_queue]
  omega

/-- Settles O54. -/
theorem bufferLevelFollowsTheDrain : Obligations.BufferLevelFollowsTheDrain := by
  unfold Obligations.BufferLevelFollowsTheDrain
  intro s h
  refine ⟨rfl, h.bufferLevel_le, fun n len m hn hlen further within => ?_⟩
  have level := bufferLevel_setSlot_of_queued hn h.queue_nodup { s.slot n with drainMark := m }
  have before : (s.slot n).buffered = (s.slot n).duration - (s.slot n).duration * (s.slot n).drainMark / len := by
    rw [Slot.buffered, Slot.played, hlen]; rfl
  have after : Slot.buffered { s.slot n with drainMark := m } = (s.slot n).duration - (s.slot n).duration * m / len := by
    rw [Slot.buffered, Slot.played, hlen]; rfl
  rw [before, after] at level
  have rises : (s.slot n).duration * (s.slot n).drainMark / len ≤ (s.slot n).duration * m / len :=
    Nat.div_le_div_right (Nat.mul_le_mul_left _ further)
  have whole : (s.slot n).duration * m / len ≤ (s.slot n).duration :=
    Nat.div_le_of_le_mul (by rw [Nat.mul_comm]; exact Nat.mul_le_mul_right _ within)
  have parts := Nat.sub_add_sub_cancel whole rises
  intro credit
  linarith

/-! ### A landing of a slot already read (R44, R45) -/

/-- A sample reads nothing of the slot table (R63 to R66). -/
theorem takeSample_setSlot (s : State) (n : Fin 8) (x : Slot) (y : Sample) :
    takeSample (s.setSlot n x) y = (takeSample s y).setSlot n x := by
  unfold takeSample
  rw [takePassedSample_eq, takePassedSample_eq, State.setSlot_setup]
  split <;> rfl

theorem landedUncredited_timers (s : State) (n : Fin 8) : (landedUncredited s n).timers n = SlotTimers.stopped := by
  have same : (landedUncredited s n).pm = (landedTable s n).pm := (land_before_credit s n _).2
  rw [State.timers, same]
  exact (landedTable_timers s n n).trans (if_pos rfl)

/-- The landing of the slot unread: the same steps, with the drain mark 0 in the record they leave. -/
theorem land_undrained (s : State) (n : Fin 8) : land (s.setSlot n { s.slot n with drainMark := 0 }) n =
    (landedUncredited s n).setSlot n { (s.slot n).landedRecord with drainMark := 0 } := by
  have segments : (fun m => ((s.setSlot n { s.slot n with drainMark := 0 }).slot m).segment) = fun m => (s.slot m).segment := by
    funext m
    rw [State.slot_setSlot]
    split
    · rename_i hm; rw [hm]
    · rfl
  have queue : queueWith (s.setSlot n { s.slot n with drainMark := 0 }) n = queueWith s n := by
    rw [queueWith, segments, State.slot_setSlot_same]; rfl
  have table : landedTable (s.setSlot n { s.slot n with drainMark := 0 }) n =
      (landedTable s n).setSlot n { (s.slot n).landedRecord with drainMark := 0 } := by
    rw [landedTable, queue, State.slot_setSlot_same, State.setSlot_setSlot, landedTable]
    simp [State.setSlot, State.setQueue, State.setTimers, Slot.landedRecord]
  rw [land_of_undrained (by rw [State.slot_setSlot_same]), table, takeSample_setSlot, State.slot_setSlot_same]
  rfl

/-- A slot freed whose timers have stopped already (R54). -/
theorem freeSlot_of_stopped {s : State} {n : Fin 8} (h : s.timers n = SlotTimers.stopped) :
    freeSlot s n = (s.setSlot n Slot.empty).setQueue (s.stu.queue.filter (fun q => decide (q ≠ n))) := by
  rw [freeSlot, ← h]
  exact State.setTimers_self ((s.setSlot n Slot.empty).setQueue _) n

/-- The last step of a landing of a slot read to its drain mark: the rung's dwell time credited, and the slot DRAINING, or consumed
at its length (R44, R45, R49). -/
theorem landRead_of_read {s : State} {n : Fin 8} {len : Nat} (hlen : (s.slot n).length = some len)
    (read : 1 ≤ (s.slot n).drainMark) :
    let paid := growTally s (.dwellTime (s.slot n).rung) ((s.slot n).duration * (s.slot n).drainMark / len)
    landRead s n = if (s.slot n).drainMark = len then consume paid n else paid.setSlot n { s.slot n with state := .draining } := by
  have played : (s.slot n).played (s.slot n).drainMark = (s.slot n).duration * (s.slot n).drainMark / len := by
    rw [Slot.played, hlen]; rfl
  have full : some (s.slot n).drainMark = (s.slot n).length ↔ (s.slot n).drainMark = len := by rw [hlen, Option.some.injEq]
  unfold landRead
  dsimp only
  rw [if_neg (Nat.ne_of_gt read), played, consume_setSlot (by rfl)]
  exact if_congr full rfl rfl

/-- Settles O39. Both landings leave the same state but for the record, the credit and what follows from the read. -/
theorem landingCreditsAnEarlierDrain : Obligations.LandingCreditsAnEarlierDrain := by
  unfold Obligations.LandingCreditsAnEarlierDrain
  intro s n len h hlen drained x m t times credited underrun
  have unread : t = (landedUncredited s n).setSlot n { x.landedRecord with drainMark := 0 } := land_undrained s n
  have record : (landedUncredited s n).slot n = x.landedRecord := (landedUncredited_slot s n n).trans (if_pos rfl)
  have landed : land s n =
      let paid := growTally (landedUncredited s n) (.dwellTime x.rung) (x.duration * m / len)
      if m = len then consume paid n else paid.setSlot n { x.landedRecord with state := .draining } := by
    rw [land_eq_landRead, landRead_of_read (len := len) (by rw [record]; exact hlen) (by rw [record]; exact drained), record]
    rfl
  clear_value t
  -- the landing of the slot unread, with rung k's dwell time credited
  generalize hc : growTally t (.dwellTime x.rung) (x.duration * m / len) = c
  have paid : c = { t with eru := { t.eru with tallies := { t.eru.tallies with dwellTime := credited } } } :=
    hc.symm.trans (growTally_dwellTime t h _)
  have fromRead : c = (growTally (landedUncredited s n) (.dwellTime x.rung) (x.duration * m / len)).setSlot n
      { x.landedRecord with drainMark := 0 } := by rw [← hc, unread]; rfl
  refine ⟨fun short => ?_, fun full => ?_⟩
  · calc land s n
      _ = (growTally (landedUncredited s n) (.dwellTime x.rung) (x.duration * m / len)).setSlot n
          { x.landedRecord with state := .draining } := landed.trans (if_neg short)
      _ = c.setSlot n { t.slot n with drainMark := m, state := .draining } := by
        rw [fromRead, State.setSlot_setSlot, unread, State.slot_setSlot_same]
        rfl
      _ = _ := by rw [paid]; rfl
  · have stopped : c.timers n = SlotTimers.stopped := by
      rw [fromRead]; exact landedUncredited_timers s n
    have segment : (c.slot n).segment = x.segment := by rw [fromRead, State.slot_setSlot_same]; rfl
    have others (k : Fin 8) (hk : k ≠ n) : c.slot k = s.slot k := by
      rw [fromRead, State.slot_setSlot_other _ _ _ _ hk, growTally_slot, landedUncredited_slot, if_neg hk]
    have next : ((c.slot n).segment < 2 ^ 32 - 1 ∧ ∃ k : Fin 8, k ≠ n ∧ (c.slot k).state.unlanded = true
        ∧ (c.slot k).segment = (c.slot n).segment + 1) ↔ underrun := by
      rw [segment]
      exact and_congr_right fun _ => exists_congr fun k => and_congr_right fun hk => by rw [others k hk]
    calc land s n
      _ = consume (growTally (landedUncredited s n) (.dwellTime x.rung) (x.duration * m / len)) n := landed.trans (if_pos full)
      _ = consume c n := by rw [fromRead, consume_setSlot (by rw [growTally_slot, record])]
      _ = if underrun then reportEvent (freeSlot c n) .underrun .underruns else freeSlot c n :=
        (consume_eq_underrun c n).trans (if_congr next rfl rfl)
      _ = _ := by
        rw [freeSlot_of_stopped stopped, paid]
        by_cases hu : underrun
        · simp only [if_pos hu]; rfl
        · simp only [if_neg hu]; rfl

end Sys2Proof.Machine
end

section
/-! PROOF. Measuring the link: an estimate's update (O52), the safe rate (O53) and SEED (O13). -/

namespace Sys2Proof.Machine

/-! ### An estimate's update (R67) -/

/-- A distance d divided by 2h and rounded to nearest lies between d and 0. -/
theorem roundedStep_between {h : Int} (hh : 0 < h) (d : Int) :
    min d 0 ≤ (d + h) / (2 * h) ∧ (d + h) / (2 * h) ≤ max d 0 := by
  have positive : 0 < 2 * h := by omega
  have bounds : min d 0 * (2 * h) ≤ d + h ∧ d + h < (max d 0 + 1) * (2 * h) := by
    rcases le_total d 0 with hd | hd
    · rw [min_eq_left hd, max_eq_right hd]
      constructor <;> nlinarith
    · rw [min_eq_right hd, max_eq_left hd]
      constructor <;> nlinarith
  exact ⟨Int.le_ediv_of_mul_le positive bounds.1, Int.lt_add_one_iff.1 (Int.ediv_lt_of_lt_mul positive bounds.2)⟩

/-- The rounded quotient is 0 exactly on the dead band −h..h − 1. -/
theorem roundedStep_eq_zero_iff {h : Int} (hh : 0 < h) (d : Int) : (d + h) / (2 * h) = 0 ↔ -h ≤ d ∧ d ≤ h - 1 := by
  have positive : 0 < 2 * h := by omega
  have low := Int.le_ediv_iff_mul_le (a := 0) (b := d + h) positive
  have high := Int.ediv_lt_iff_lt_mul (a := d + h) (b := 1) positive
  omega

/-- The update adds the rounded step; the sum is never below 0, for the step stops at the sample. -/
theorem updatedEstimate_eq_add_step {a : Nat} (ha : 1 ≤ a) (e x : Nat) :
    (updatedEstimate e a x : Int) = e + ((x : Int) - e + 2 ^ (a - 1)) / (2 * 2 ^ (a - 1)) := by
  have low := (roundedStep_between (h := 2 ^ (a - 1)) (by positivity) ((x : Int) - e)).1
  simp only [updatedEstimate, ← mul_pow_sub_one (Nat.ne_of_gt ha) (2 : Int)]
  exact Int.toNat_of_nonneg (by omega)

/-- An estimate never passes the smaller of its old value and the sample (R67). -/
theorem min_le_updatedEstimate {a : Nat} (ha : 1 ≤ a) (e x : Nat) : min e x ≤ updatedEstimate e a x := by
  have low := (roundedStep_between (h := 2 ^ (a - 1)) (by positivity) ((x : Int) - e)).1
  have moved := updatedEstimate_eq_add_step ha e x
  omega

/-- An estimate stays where it is exactly on its dead band (R67). -/
theorem updatedEstimate_eq_self_iff {a : Nat} (ha : 1 ≤ a) (e x : Nat) :
    updatedEstimate e a x = e ↔ -2 ^ (a - 1) ≤ (x : Int) - e ∧ (x : Int) - e ≤ 2 ^ (a - 1) - 1 := by
  have moved := updatedEstimate_eq_add_step ha e x
  rw [← roundedStep_eq_zero_iff (by positivity)]
  omega

/-- Settles O52. -/
theorem estimateMovesTowardTheSample : Obligations.EstimateMovesTowardTheSample := by
  unfold Obligations.EstimateMovesTowardTheSample
  intro e a x ha d h
  have floor : ⌊((d + h : Int) : ℚ) / 2 ^ a⌋ = (d + h) / (2 * h) := by
    rw [mul_pow_sub_one (Nat.ne_of_gt ha)]
    exact_mod_cast Rat.floor_intCast_div_natCast (d + h) (2 ^ a)
  rw [floor]
  exact ⟨updatedEstimate_eq_add_step ha e x, min_le_updatedEstimate ha e x, updatedEstimate_le_max ha e x,
    updatedEstimate_eq_self_iff ha e x⟩

/-! ### The safe rate (R76) -/

theorem safeRate_of_adopted {s : State} {u : Setup} (h : s.ccu.adoptedSetup = some u) :
    safeRate s = lowerEstimate s * safetyFactor u s.te.congestion / 256 := by
  rw [safeRate, h]

/-- No factor is above 1, which is 256 (R76). -/
theorem safetyFactor_le {u : Setup} (hu : SettingsInRange u) (c : Congestion) : safetyFactor u c ≤ 256 := by
  cases c with
  | clear => exact hu.sigma.2
  | congested => exact hu.sigmaCongested.2.trans hu.sigma.2

theorem safeRate_le_lowerEstimate {s : State} {u : Setup} (h : s.ccu.adoptedSetup = some u) (hu : SettingsInRange u) :
    safeRate s ≤ lowerEstimate s := by
  rw [safeRate_of_adopted h]
  exact Nat.div_le_of_le_mul (by rw [Nat.mul_comm]; exact Nat.mul_le_mul_right _ (safetyFactor_le hu _))

/-- Settles O53. -/
theorem safeRateFollowsTheLowerEstimate : Obligations.SafeRateFollowsTheLowerEstimate := by
  unfold Obligations.SafeRateFollowsTheLowerEstimate
  intro s u adopted hu lower
  have bound : safeRate s ≤ lower := safeRate_le_lowerEstimate adopted hu
  refine ⟨fun clear => ?_, fun congested => ?_, ?_, bound, fun fast => (bound.trans (min_le_left _ _)).trans fast⟩
  · rw [safeRate_of_adopted adopted, clear]; rfl
  · rw [safeRate_of_adopted adopted, congested]; rfl
  · rw [safeRate_of_adopted (s := { s with te := { s.te with congestion := .congested } }) adopted,
      safeRate_of_adopted (s := { s with te := { s.te with congestion := .clear } }) adopted]
    exact Nat.div_le_div_right (Nat.mul_le_mul_left _ hu.sigmaCongested.2)

/-! ### SEED (R70) -/

/-- Equal estimates leave CONGESTED, and do not enter it, whenever neither ratio is above 1, which is 256 (R74). -/
theorem congestionAfter_of_equal (c : Congestion) (e : Nat) {rhoIn rhoOut : Nat} (hin : rhoIn ≤ 256) (hout : rhoOut ≤ 256) :
    congestionAfter c e e rhoIn rhoOut = .clear := by
  cases c with
  | clear => exact if_neg (Nat.not_lt.2 (Nat.mul_le_mul_left e hin))
  | congested => exact if_pos (Nat.mul_le_mul_left e hout)

/-- Two equal estimates are judged CLEAR, as where no ratios are there to test against (R70, R74). -/
theorem reevaluateCongestion_of_equal {s : State} (equal : s.te.slow = s.te.fast) (hin : s.setup.rhoIn ≤ 256)
    (hout : s.setup.rhoOut ≤ 256) : reevaluateCongestion s = clearCongestion s := by
  rw [reevaluateCongestion, clearCongestion, equal, congestionAfter_of_equal _ _ hin hout]
  exact if_congr eq_comm rfl rfl

/-- CONGESTED made CLEAR raises CONGEST; CLEAR stays as it is (R70, R74). -/
theorem clearCongestion_eq (s : State) : clearCongestion s =
    { s with
      te := { s.te with congestion := .clear }
      eru := { s.eru with
        flags := if s.te.congestion = .congested then s.eru.flags ||| flagBit .congest else s.eru.flags } } := by
  unfold clearCongestion
  cases h : s.te.congestion with
  | clear =>
    have same : { s.te with congestion := .clear } = s.te := by rw [← h]
    rw [if_pos rfl, if_neg (by decide), same]
  | congested => rfl

/-- Settles O13. With a SETUP adopted the re-evaluation of two equal estimates clears, and with none SEED clears by itself. -/
theorem seedSetsBothEstimates : Obligations.SeedSetsBothEstimates := by
  unfold Obligations.SeedSetsBothEstimates
  intro s rate hs ratios
  have taken : exec (.seed rate) s = .next (seedEstimates s rate) := congrArg Host.Outcome.next (whenReleased_of_takesEvents hs _)
  have cleared : seedEstimates s rate =
      clearCongestion { s with te := { s.te with fast := min rate.toNat rateTop, slow := min rate.toNat rateTop } } := by
    unfold seedEstimates
    cases adopted : s.ccu.adoptedSetup with
    | none => rfl
    | some u =>
      obtain ⟨hin, hout⟩ := ratios u adopted
      have setup : s.setup = u := by rw [State.setup, adopted]; rfl
      exact reevaluateCongestion_of_equal rfl (setup ▸ hin.trans (by decide)) (setup ▸ hout)
  rw [taken, cleared, clearCongestion_eq]
  rfl

end Sys2Proof.Machine
end

section
/-! PROOF. The rung ladder: effective rates (O49), the candidate search (O50, O51) and the capacity fit (O29). -/

namespace Sys2Proof.Machine

/-! ### Rungs of a legal ladder (R79, R81) -/

theorem ladderRung_eq_getElem {l : Ladder} {k : Nat} (h : k < rungCount l) : ladderRung l k = l.rungs[k]'h :=
  List.getD_eq_getElem _ _ h

theorem ladderRung_mem {l : Ladder} {k : Nat} (h : k < rungCount l) : ladderRung l k ∈ l.rungs :=
  ladderRung_eq_getElem h ▸ List.getElem_mem h

/-- Nominal rates rise with the rung (R81). -/
theorem LadderLegal.nominal_le {l : Ladder} (legal : LadderLegal l) {i j : Nat} (hij : i ≤ j) (hj : j < rungCount l) :
    (ladderRung l i).nominal ≤ (ladderRung l j).nominal := by
  rcases hij.eq_or_lt with rfl | below
  · exact le_rfl
  · rw [ladderRung_eq_getElem (below.trans hj), ladderRung_eq_getElem hj]
    exact (List.pairwise_iff_getElem.1 legal.rising i j (below.trans hj) hj below).le

/-- Expected bytes follow the nominal rate, so they rise with the rung (R81, R85). -/
theorem LadderLegal.expectedBytes_le {l : Ladder} (legal : LadderLegal l) (duration : Nat) {i j : Nat} (hij : i ≤ j)
    (hj : j < rungCount l) : expectedBytes l i duration ≤ expectedBytes l j duration :=
  Nat.div_le_div_right (Nat.mul_le_mul_right duration (legal.nominal_le hij hj))

/-! ### Effective rates (R80) -/

theorem effectiveRate_cast (r : Rung) : (effectiveRate r : Int) = max 1 ((r.nominal : Int) + 16 * r.trim) :=
  Int.toNat_of_nonneg (Int.one_pos.le.trans (le_max_left _ _))

theorem one_le_effectiveRate (r : Rung) : 1 ≤ effectiveRate r := by
  have formula := effectiveRate_cast r
  omega

/-- The largest nominal rate with the largest trim bounds every effective rate: 65,535 + 16 × 127 (R79, R80). -/
theorem LadderLegal.effectiveRate_le {l : Ladder} (legal : LadderLegal l) {r : Rung} (hr : r ∈ l.rungs) :
    effectiveRate r ≤ 67567 := by
  have formula := effectiveRate_cast r
  obtain ⟨-, nominal, -, trim⟩ := legal.lowest r hr
  omega

theorem effectiveRate_eq_nominal {r : Rung} (nominal : 1 ≤ r.nominal) (trim : r.trim = 0) : effectiveRate r = r.nominal := by
  have formula := effectiveRate_cast r
  rw [trim] at formula
  omega

/-- Without trims the effective rates are the nominal ones, which a legal ladder has strictly rise (R80, R81). -/
theorem LadderLegal.effectiveRate_rising {l : Ladder} (legal : LadderLegal l) (untrimmed : ∀ r ∈ l.rungs, r.trim = 0) :
    l.rungs.Pairwise (fun a b => effectiveRate a < effectiveRate b) := by
  have nominal (r : Rung) (hr : r ∈ l.rungs) : effectiveRate r = r.nominal :=
    effectiveRate_eq_nominal ((by decide : 1 ≤ 64).trans (legal.lowest r hr).1) (untrimmed r hr)
  refine legal.rising.imp_of_mem fun {a b} ha hb rise => ?_
  rw [nominal a ha, nominal b hb]
  exact rise

/-- Settles O49. -/
theorem effectiveRatesAreInRange : Obligations.EffectiveRatesAreInRange := by
  unfold Obligations.EffectiveRatesAreInRange
  refine ⟨effectiveRate_cast, fun l legal r hr => ⟨one_le_effectiveRate r, legal.effectiveRate_le hr⟩, by decide, by decide,
    fun r => effectiveRate_eq_nominal, fun l => LadderLegal.effectiveRate_rising, ?_, by decide⟩
  constructor <;> decide

/-! ### The candidate search (R86, R87) -/

/-- The search tests the rung just below first, and takes it when it is within the limit (R87). -/
theorem candidateBelow_succ_of_le {l : Ladder} {limit k : Nat} (h : effectiveRate (ladderRung l k) ≤ limit) :
    candidateBelow l limit (k + 1) = k := if_pos h

theorem candidateBelow_succ_of_not_le {l : Ladder} {limit k : Nat} (h : ¬ effectiveRate (ladderRung l k) ≤ limit) :
    candidateBelow l limit (k + 1) = candidateBelow l limit k := if_neg h

/-- A rung within the limit makes the search end at one within the limit, no lower than it (R87). -/
theorem candidateBelow_highest {l : Ladder} {limit j k : Nat} (hk : k < j) (fits : effectiveRate (ladderRung l k) ≤ limit) :
    effectiveRate (ladderRung l (candidateBelow l limit j)) ≤ limit ∧ k ≤ candidateBelow l limit j := by
  induction j with
  | zero => nomatch hk
  | succ j ih =>
    by_cases top : effectiveRate (ladderRung l j) ≤ limit
    · rw [candidateBelow_succ_of_le top]
      exact ⟨top, Nat.le_of_lt_succ hk⟩
    · rw [candidateBelow_succ_of_not_le top]
      refine ih (lt_of_le_of_ne (Nat.le_of_lt_succ hk) ?_)
      rintro rfl
      exact top fits

theorem candidateBelow_eq_zero {l : Ladder} {limit j : Nat} (noRung : ∀ k, k < j → ¬ effectiveRate (ladderRung l k) ≤ limit) :
    candidateBelow l limit j = 0 := by
  induction j with
  | zero => rfl
  | succ j ih =>
    rw [candidateBelow_succ_of_not_le (noRung j (Nat.lt_succ_self j))]
    exact ih fun k hk => noRung k (hk.trans (Nat.lt_succ_self j))

/-- No effective rate is 0, so that no rung is within a limit of 0 (R80). -/
theorem candidateBelow_limit_zero (l : Ladder) (j : Nat) : candidateBelow l 0 j = 0 :=
  candidateBelow_eq_zero fun k _ => Nat.not_le.2 (one_le_effectiveRate (ladderRung l k))

/-- The rung found for a limit is within every higher limit too (R86). -/
theorem candidateBelow_le_of_le (l : Ladder) (j : Nat) {limit higher : Nat} (h : limit ≤ higher) :
    candidateBelow l limit j ≤ candidateBelow l higher j := by
  by_cases found : ∃ k, k < j ∧ effectiveRate (ladderRung l k) ≤ limit
  · obtain ⟨k, hk, fits⟩ := found
    exact (candidateBelow_highest (candidateBelow_lt l limit (Nat.zero_lt_of_lt hk))
      ((candidateBelow_highest hk fits).1.trans h)).2
  · rw [candidateBelow_eq_zero fun k hk fits => found ⟨k, hk, fits⟩]
    exact Nat.zero_le _

/-- Settles O51. -/
theorem candidateBelowStaysBelow : Obligations.CandidateBelowStaysBelow := by
  unfold Obligations.CandidateBelowStaysBelow
  intro l limit j
  refine ⟨?_, fun noRung => candidateBelow_eq_zero fun k hk fits => noRung k ⟨hk, fits⟩, ?_, candidateBelow_lt l limit, ?_⟩
  · rintro ⟨k, hk, fits⟩
    exact ⟨⟨candidateBelow_lt l limit (Nat.zero_lt_of_lt hk), (candidateBelow_highest hk fits).1⟩,
      fun i ⟨hi, within⟩ => (candidateBelow_highest hi within).2⟩
  · rintro rfl
    rfl
  · rintro rfl
    exact candidateBelow_limit_zero l j

/-- The top rung is the candidate where its effective rate is within the rate (R86). -/
theorem candidate_eq_top {l : Ladder} {rate : Nat} (count : 1 ≤ rungCount l)
    (fits : effectiveRate (ladderRung l (rungCount l - 1)) ≤ rate) : candidate l rate = rungCount l - 1 := by
  rw [candidate, ← Nat.sub_add_cancel count]
  exact candidateBelow_succ_of_le fits

/-- Settles O50. The candidate is the candidate below N, of which O51 says which rung it is. -/
theorem candidateIsTheHighestWithinTheRate : Obligations.CandidateIsTheHighestWithinTheRate := by
  unfold Obligations.CandidateIsTheHighestWithinTheRate
  intro l rate count c within
  have top : rungCount l - 1 < rungCount l := Nat.sub_one_lt_of_lt count
  obtain ⟨highest, noRung, -, below, -⟩ := candidateBelowStaysBelow l rate (rungCount l)
  refine ⟨highest, noRung, fun higher => candidateBelow_le_of_le l _, candidateBelow_limit_zero l _,
    fun all => candidate_eq_top count (all _ top), fun single => ?_, fun legal high => ?_⟩
  · exact Nat.lt_one_iff.1 ((below count).trans_eq single)
  · exact candidate_eq_top count ((legal.effectiveRate_le (ladderRung_mem top)).trans high)

/-! ### The capacity fit (R106) -/

/-- The fit finds exactly the highest rung at or below the given one that fits, with its expected bytes (R106). -/
theorem capacityFit_eq_some_iff {l : Ladder} {duration capacity rung k e : Nat} :
    capacityFit l duration capacity rung = some (k, e) ↔
      k ≤ rung ∧ e = expectedBytes l k duration ∧ e ≤ capacity
        ∧ ∀ j, k < j → j ≤ rung → capacity < expectedBytes l j duration := by
  refine ⟨capacityFit_some, ?_⟩
  rintro ⟨below, rfl, fits, highest⟩
  exact capacityFit_eq below fits highest

/-- On a legal ladder the fit finds none exactly when rung 0 does not fit: every higher rung expects no fewer bytes (R106). -/
theorem LadderLegal.capacityFit_eq_none_iff {l : Ladder} (legal : LadderLegal l) {duration capacity rung : Nat}
    (h : rung < rungCount l) : capacityFit l duration capacity rung = none ↔ capacity < expectedBytes l 0 duration := by
  refine ⟨fun noFit => capacityFit_none noFit 0 (Nat.zero_le rung), fun tooSmall => Option.eq_none_iff_forall_ne_some.2 ?_⟩
  rintro ⟨k, e⟩ found
  obtain ⟨below, rfl, fits, -⟩ := capacityFit_some found
  have least := legal.expectedBytes_le duration (Nat.zero_le k) (below.trans_lt h)
  exact absurd (least.trans fits) (Nat.not_le.2 tooSmall)

/-- Settles O29. -/
theorem capacityFitFindsTheHighestRung : Obligations.CapacityFitFindsTheHighestRung := by
  unfold Obligations.CapacityFitFindsTheHighestRung
  intro l duration capacity rung legal h
  exact ⟨fun k e => capacityFit_eq_some_iff, legal.capacityFit_eq_none_iff h, fun i j => legal.expectedBytes_le duration⟩

end Sys2Proof.Machine
end

section
/-! PROOF. Every step keeps the byte buffers (O57): the runs of a write and the snapshots change one within its form, the resets empty
them, and every other operation leaves them as they are. -/

namespace Sys2Proof.Machine

/-! ### The byte buffers of a state -/

/-- The byte buffers of the part: the capture shadow, each ticket's request shadow, and the snapshot (R89, R131, R145). -/
structure Buffers where
  capture : ByteStore
  request : Fin 16 → ByteStore
  snapshot : List Byte

/-- The byte buffers as the state stands. -/
def State.buffers (s : State) : Buffers :=
  { capture := s.ccu.shadow, request := fun k => (s.ticket k).shadow, snapshot := s.eru.snapshot }

/-- The law of the buffers is about them alone. -/
theorem BuffersCanonical.of_buffers {s t : State} (h : BuffersCanonical s) (same : t.buffers = s.buffers) : BuffersCanonical t := by
  have capture : t.ccu.shadow = s.ccu.shadow := congrArg Buffers.capture same
  have request (k : Fin 16) : (t.ticket k).shadow = (s.ticket k).shadow := congrArg (fun b => b.request k) same
  have snapshot : t.eru.snapshot = s.eru.snapshot := congrArg Buffers.snapshot same
  exact
    { capture := by rw [capture]; exact h.capture
      captureSize := by rw [capture]; exact h.captureSize
      request := fun k => by rw [request]; exact h.request k
      requestSize := fun k => by rw [request]; exact h.requestSize k
      snapshot := by rw [snapshot]; exact h.snapshot }

/-- A ticket with another entry and the same request shadow. -/
theorem setTicket_buffers {s : State} {k : Fin 16} {x : Ticket} (h : x.shadow = (s.ticket k).shadow) :
    (s.setTicket k x).buffers = s.buffers := by
  have request (j : Fin 16) : ((s.setTicket k x).ticket j).shadow = (s.ticket j).shadow := by
    rw [State.ticket_setTicket]
    split
    · rename_i hj; rw [hj, h]
    · rfl
  have same : (s.setTicket k x).buffers = { s.buffers with request := fun j => ((s.setTicket k x).ticket j).shadow } := rfl
  rw [same]
  simp only [request]
  rfl

theorem setPosition_buffers (s : State) (p : Position) (x : PositionState) : (s.setPosition p x).buffers = s.buffers := by
  cases p <;> rfl

theorem foldl_buffers {α : Type} {f : State → α → State} (h : ∀ s a, (f s a).buffers = s.buffers) (l : List α) (s : State) :
    (l.foldl f s).buffers = s.buffers := by
  induction l generalizing s with
  | nil => rfl
  | cons a l ih => exact (ih _).trans (h s a)

/-! ### Observations of slots leave the buffers alone -/

theorem takeSample_buffers (s : State) (x : Sample) : (takeSample s x).buffers = s.buffers := by
  unfold takeSample
  split
  · rfl
  · rw [takePassedSample_eq]; rfl

theorem consume_buffers (s : State) (n : Fin 8) : (consume s n).buffers = s.buffers := by
  rw [consume_eq]
  split <;> rfl

theorem landRead_buffers (s : State) (n : Fin 8) : (landRead s n).buffers = s.buffers := by
  unfold landRead
  dsimp only
  split
  · rfl
  split
  · exact consume_buffers _ n
  · rfl

theorem land_buffers (s : State) (n : Fin 8) : (land s n).buffers = s.buffers :=
  (landRead_buffers _ n).trans (takeSample_buffers (landedTable s n) _)

theorem landIfFull_buffers (s : State) (n : Fin 8) : (landIfFull s n).buffers = s.buffers := by
  unfold landIfFull
  split
  · exact land_buffers s n
  · rfl

theorem fillObservation_buffers (s : State) (n : Fin 8) (low fillEnd : Nat) :
    (fillObservation s n low fillEnd).buffers = s.buffers := by
  rw [fillObservation_eq]
  split
  · exact landIfFull_buffers (countedFill s n fillEnd) n
  · rfl

theorem drainLanded_buffers (s : State) (n : Fin 8) (drainEnd : Nat) : (drainLanded s n drainEnd).buffers = s.buffers := by
  unfold drainLanded
  dsimp only
  split
  · rfl
  split
  · exact consume_buffers _ n
  · rfl

theorem drainObservation_buffers (s : State) (n : Fin 8) (drainEnd : Nat) :
    (drainObservation s n drainEnd).buffers = s.buffers := by
  unfold drainObservation drainUnlanded
  dsimp only
  split
  · split <;> rfl
  split
  · exact drainLanded_buffers s n drainEnd
  · rfl

theorem declareLength_buffers (s : State) (n : Fin 8) (v : Nat) : (declareLength s n v).buffers = s.buffers := by
  unfold declareLength
  dsimp only
  split <;> exact landIfFull_buffers _ n

/-! ### Decisions leave the buffers alone -/

theorem capFitGo_buffers (s : State) (q : Request) (rung : Nat) : (capFitGo s q rung).2.buffers = s.buffers := by
  obtain ⟨-, hd⟩ | ⟨n, -, -, hd⟩ | ⟨n, k, e, -, -, hd⟩ := capFitGo_cases s q rung
  · rw [hd]; rfl
  · rw [hd]; rfl
  · rw [hd, noteRung_eq]; rfl

theorem decideFetch_buffers (s : State) (q : Request) : (decideFetch s q).2.buffers = s.buffers := by
  obtain hd | ⟨kind, hd⟩ | ⟨-, hd⟩ := decideFetch_state_cases s q
  · rw [hd]
  · rw [hd]; rfl
  · rw [hd]; exact capFitGo_buffers s q _

theorem decideLength_buffers (s : State) (q : Request) : (decideLength s q).2.buffers = s.buffers := by
  unfold decideLength
  split
  · rfl
  split
  · rfl
  split
  · rfl
  split
  · rfl
  · exact declareLength_buffers s _ _

theorem decideDrop_buffers (s : State) (q : Request) : (decideDrop s q).2.buffers = s.buffers := by
  unfold decideDrop
  split <;> rfl

theorem decideRefetch_buffers (s : State) (q : Request) (old : Slot) : (decideRefetch s q old).2.buffers = s.buffers := by
  unfold decideRefetch
  split
  · rfl
  split
  · rfl
  · exact capFitGo_buffers s q _

theorem decideReplace_buffers (s : State) (q : Request) : (decideReplace s q).2.buffers = s.buffers := by
  unfold decideReplace
  split
  case h_1 | h_2 | h_3 => rfl
  all_goals
    split
    · rfl
    split
    · rfl
    · exact decideRefetch_buffers (freeSlot s _) q _

/-- A decision changes no ticket's request shadow (R93). -/
theorem decideRequest_buffers (s : State) (q : Request) : (decideRequest s q).2.buffers = s.buffers := by
  unfold decideRequest
  split
  · exact decideFetch_buffers s q
  split
  · exact decideLength_buffers s q
  split
  · exact decideDrop_buffers s q
  split
  · exact decideReplace_buffers s q
  · rfl

theorem latch_buffers (s : State) (k : Fin 16) (v : Verdict) (stamp : Byte) : (latch s k v stamp).buffers = s.buffers :=
  setTicket_buffers rfl

/-- A closing write changes the entry, and no shadow (R92). -/
theorem closeTicket_buffers (s : State) (k : Fin 16) : (closeTicket s k).buffers = s.buffers := by
  unfold closeTicket
  dsimp only
  split
  · exact setTicket_buffers rfl
  split
  · rfl
  · exact (latch_buffers _ k _ _).trans (decideRequest_buffers s _)

/-! ### Expiries, time and directives leave the buffers alone -/

theorem settleExpires_buffers (s : State) (p : Position) : (settleExpires s p).buffers = s.buffers := by
  unfold settleExpires
  dsimp only
  split <;> exact setPosition_buffers s p _

theorem advise_buffers (s : State) (n : Fin 8) : (advise s n).buffers = s.buffers := rfl

theorem checkExpires_buffers (s : State) (n : Fin 8) : (checkExpires s n).buffers = s.buffers := by
  unfold checkExpires
  dsimp only
  split
  · split
    · exact advise_buffers s n
    · rfl
  · rfl

theorem stallExpires_buffers (s : State) (n : Fin 8) : (stallExpires s n).buffers = s.buffers := by
  unfold stallExpires
  dsimp only
  split
  · exact advise_buffers _ n
  · rfl

theorem slotExpiries_buffers (s : State) (n : Fin 8) : (slotExpiries s n).buffers = s.buffers := by
  have stall : (stallIfDue s n).buffers = s.buffers := by
    unfold stallIfDue
    split
    · exact stallExpires_buffers s n
    · rfl
  have check : (checkIfDue (stallIfDue s n) n).buffers = (stallIfDue s n).buffers := by
    unfold checkIfDue
    split
    · exact checkExpires_buffers _ n
    · rfl
  have grace : (slotExpiries s n).buffers = (checkIfDue (stallIfDue s n) n).buffers := by
    unfold slotExpiries graceIfDue
    split <;> rfl
  exact grace.trans (check.trans stall)

theorem takeDueExpiries_buffers (s : State) : (takeDueExpiries s).buffers = s.buffers := by
  obtain ⟨l, k, -, settled⟩ := settleExpiries_eq s
  have slots := foldl_buffers slotExpiries_buffers allSlots (settleExpiries s)
  rw [takeDueExpiries, slots, settled]
  exact foldl_buffers settleExpires_buffers l s

theorem refclkTime_buffers (s : State) : (refclkTime s).buffers = s.buffers := by
  unfold refclkTime
  split <;> rfl

theorem seedEstimates_buffers (s : State) (rate : BitVec 32) : (seedEstimates s rate).buffers = s.buffers := by
  unfold seedEstimates
  dsimp only
  split
  · rw [reevaluateCongestion_eq]; rfl
  · rw [clearCongestion_eq]; rfl

/-- TEARDOWN clears the entries and keeps their request shadows (R90). -/
theorem takeTeardown_buffers (s : State) (entry : Nat) : (takeTeardown s entry).buffers = s.buffers := by
  have cleared (k : Fin 16) : ((s.vu.tickets.map Ticket.cleared)[k]).shadow = (s.ticket k).shadow := by
    simp [Ticket.cleared, State.ticket]
  unfold takeTeardown
  split
  case h_4 | h_5 => rfl
  all_goals
    simp only [State.buffers, State.ticket, cleared]
    rfl

theorem takeEntry_buffers (s : State) (code : Byte) (argument : BitVec 32) (entry : Nat) :
    (takeEntry s code argument entry).buffers = s.buffers := by
  unfold takeEntry
  split
  · unfold takeArm; split <;> rfl
  split
  · unfold takeSuspend; split <;> rfl
  split
  · unfold takeResume; split <;> rfl
  split
  · rfl
  split
  · exact takeTeardown_buffers s entry
  split
  · exact seedEstimates_buffers s argument
  split
  · rfl
  split
  · rfl
  split <;> rfl

/-! ### Snapshots and resets -/

/-- A snapshot has its 1,024 bytes (R145, R152). -/
theorem BuffersCanonical.takeSnapshot {s : State} (h : BuffersCanonical s) : BuffersCanonical (takeSnapshot s) where
  capture := by rw [takeSnapshot_ccu]; exact h.capture
  captureSize := by rw [takeSnapshot_ccu]; exact h.captureSize
  request k := by rw [takeSnapshot_ticket]; exact h.request k
  requestSize k := by rw [takeSnapshot_ticket]; exact h.requestSize k
  snapshot := by rw [takeSnapshot_snapshot, length_reportBytes]

/-- RESTART keeps the capture shadow and empties the request shadows (R90, R132). -/
theorem BuffersCanonical.takeRestart {s : State} (h : BuffersCanonical s) : BuffersCanonical (takeRestart s) :=
  BuffersCanonical.takeSnapshot
    { capture := h.capture
      captureSize := h.captureSize
      request := buffersCanonical_reset.request
      requestSize := buffersCanonical_reset.requestSize
      snapshot := h.snapshot }

theorem BuffersCanonical.releaseReset {s : State} (h : BuffersCanonical s) (pageBase : BitVec 28) (prescaler : BitVec 16)
    (revision : Byte) : BuffersCanonical (releaseReset s pageBase prescaler revision) :=
  BuffersCanonical.takeSnapshot (h.of_buffers rfl)

theorem BuffersCanonical.takeEntries {s : State} (h : BuffersCanonical s) (entry : Nat) (l : List (Byte × BitVec 32)) :
    BuffersCanonical (takeEntries s entry l) := by
  induction l generalizing s entry with
  | nil => exact h
  | cons x rest ih =>
    obtain ⟨code, argument⟩ := x
    unfold Machine.takeEntries
    split
    · exact h
    split
    · exact h.takeRestart
    · exact ih (h.of_buffers (takeEntry_buffers s code argument entry)) _

/-! ### Record positions (R133 to R138) -/

theorem BuffersCanonical.adoptRecord {s : State} (h : BuffersCanonical s) (p : Position) : BuffersCanonical (adoptRecord s p) := by
  have adopted : BuffersCanonical (adoptedState s p) := h.of_buffers (by cases p <;> rfl)
  have ready (t : State) : (readinessTest t).buffers = t.buffers := by rw [readinessTest_eq]; rfl
  cases p
  case setup => rw [adoptRecord_setup]; exact adopted.of_buffers rfl
  case ladder => exact adopted.of_buffers (ready _)
  case windows => exact adopted.of_buffers (ready _)
  case directive => exact adopted.takeEntries 0 _

theorem BuffersCanonical.evaluate {s : State} (h : BuffersCanonical s) (p : Position) : BuffersCanonical (evaluate s p) := by
  have marked (x : PositionState) : BuffersCanonical (s.setPosition p x) := h.of_buffers (setPosition_buffers s p x)
  have rejected (reason : RejectReason) : BuffersCanonical (rejectRecord s p reason) :=
    h.of_buffers (setPosition_buffers s p _)
  unfold Machine.evaluate
  dsimp only
  split
  · exact marked _
  split
  · exact marked _
  split
  · exact marked _
  split
  · exact rejected _
  split
  · exact rejected _
  · exact h.adoptRecord p

/-! ### Runs on the page (R21, R91, R133) -/

/-- A byte on the page lies at its page offset from the page's start (R20). -/
theorem sub_pageStart_of_inPage {s : State} {a : Nat} (h : s.inPage a = true) : a - s.pageStart = a % 4096 := by
  simp only [State.inPage, decide_eq_true_eq] at h
  rw [State.pageStart, ← h]
  omega

/-- What is in neither a window nor outside is on the page. -/
theorem areaAt_of_page {s : State} {a : Nat} {area : Area} (h : s.areaAt a = area) (window : ∀ n, area ≠ .window n)
    (outside : area ≠ .outside) : s.inPage a = true ∧ pageArea (a % 4096) = area := by
  have page : s.inPage a = true := by
    by_contra off
    obtain ⟨n, hw⟩ | ho := areaAt_off_page (Bool.eq_false_iff.2 off)
    · exact window n (h.symm.trans hw)
    · exact outside (h.symm.trans ho)
  exact ⟨page, (areaAt_of_inPage page).symm.trans h⟩

/-- The control area is the page's offsets 0x000..0x27F (R20). -/
theorem offset_of_control {offset : Nat} {p : Position} (h : pageArea offset = .control p) : offset < 0x280 := by
  unfold pageArea at h
  dsimp only at h
  split_ifs at h <;> omega

/-- A request half is 32 bytes from its start in the ticket's entry (R20). -/
theorem offset_of_request {offset : Nat} {k : Fin 16} (page : offset < 4096) (h : pageArea offset = .request k) :
    offset - (0xC00 + 64 * k.val) < 32 := by
  unfold pageArea at h
  dsimp only at h
  split_ifs at h
  have entry := congrArg Fin.val (Area.request.inj h)
  simp only [Fin.ofNat_eq_cast, Fin.val_natCast] at entry
  omega

/-- A control-area run: its bytes are written below the shadow's size (R131, R133). -/
theorem BuffersCanonical.controlRun {s : State} (h : BuffersCanonical s) {p : Position} {run : List (Nat × Byte)}
    (falls : ∀ ab ∈ run, s.areaAt ab.1 = .control p) : BuffersCanonical (controlRun s p (runFrom s.pageStart run)) := by
  have inside : ∀ x ∈ runFrom s.pageStart run, x.1 < 0x280 := by
    simp only [runFrom, List.forall_mem_map]
    intro ab hab
    obtain ⟨page, area⟩ := areaAt_of_page (falls ab hab) nofun nofun
    rw [sub_pageStart_of_inPage page]
    exact offset_of_control area
  have captured : BuffersCanonical (captureBytes s (runFrom s.pageStart run)) :=
    { capture := wf_writeBytes h.capture _
      captureSize := within_writeBytes h.captureSize inside
      request := h.request
      requestSize := h.requestSize
      snapshot := h.snapshot }
  exact captured.evaluate p

/-- A request-half run: its bytes are written below the shadow's size (R89, R91). -/
theorem BuffersCanonical.requestRun {s : State} (h : BuffersCanonical s) {k : Fin 16} {run : List (Nat × Byte)}
    (falls : ∀ ab ∈ run, s.areaAt ab.1 = .request k) :
    BuffersCanonical (requestRun s k (runFrom (s.pageStart + 0xC00 + 64 * k.val) run)) := by
  have inside : ∀ x ∈ runFrom (s.pageStart + 0xC00 + 64 * k.val) run, x.1 < 32 := by
    simp only [runFrom, List.forall_mem_map]
    intro ab hab
    obtain ⟨page, area⟩ := areaAt_of_page (falls ab hab) nofun nofun
    rw [Nat.add_assoc, Nat.sub_add_eq, sub_pageStart_of_inPage page]
    exact offset_of_request (Nat.mod_lt _ (by decide)) area
  have shadowed : BuffersCanonical (shadowRequest s k (runFrom (s.pageStart + 0xC00 + 64 * k.val) run)) := by
    refine { h with request := fun j => ?_, requestSize := fun j => ?_ }
    all_goals
      rw [shadowRequest, State.ticket_setTicket]
      split
    · exact wf_writeBytes (h.request k) _
    · exact h.request j
    · exact within_writeBytes (h.requestSize k) inside
    · exact h.requestSize j
  unfold Machine.requestRun
  split
  · exact shadowed.of_buffers (closeTicket_buffers _ k)
  · exact shadowed

theorem BuffersCanonical.takeWriteRun {s : State} (h : BuffersCanonical s) (fills : Bool) {area : Area} {run : List (Nat × Byte)}
    (falls : ∀ ab ∈ run, s.areaAt ab.1 = area) : BuffersCanonical (takeWriteRun fills area run s) := by
  cases area
  case control p => exact h.controlRun falls
  case request k => exact h.requestRun falls
  case window n =>
    simp only [Machine.takeWriteRun]
    split
    · exact h.of_buffers (fillObservation_buffers s n _ _)
    · exact h
  all_goals exact h

theorem BuffersCanonical.takeReadRun {s : State} (h : BuffersCanonical s) (drains : Bool) (area : Area) (run : List (Nat × Byte)) :
    BuffersCanonical (takeReadRun drains area run s) := by
  cases area
  case window n =>
    simp only [Machine.takeReadRun]
    split
    · exact h.of_buffers (drainObservation_buffers s n _)
    · exact h
  all_goals exact h

/-! ### Commands -/

theorem BuffersCanonical.whenReleased {s : State} (h : BuffersCanonical s) {event : State → State}
    (he : ∀ t, BuffersCanonical t → BuffersCanonical (event t)) : BuffersCanonical (whenReleased s event) := by
  unfold Machine.whenReleased
  split
  · exact h
  · exact he _ (h.of_buffers (takeDueExpiries_buffers s))

theorem BuffersCanonical.expiryStep {s : State} (h : BuffersCanonical s) (due : State → Bool) {event : State → State}
    (he : (event s).buffers = s.buffers) : BuffersCanonical (expiryStep s due event) := by
  unfold Machine.expiryStep
  split
  · exact h
  split
  · exact h.of_buffers he
  · exact h

theorem BuffersCanonical.writeTransaction {s : State} (h : BuffersCanonical s) (w : BusWrite) :
    BuffersCanonical (writeTransaction s w) :=
  BuffersCanonical.whenReleased (h.of_buffers (t := forwardWrite s w) rfl)
    (fun _ ht => handRuns_keeps_in (fun _ _ _ falls hu => hu.takeWriteRun _ falls) _ _ ht)

theorem BuffersCanonical.readReleased {s : State} (h : BuffersCanonical s) (r : ReadResponse) :
    BuffersCanonical (readReleased s r) := by
  have snapshot (bytes : List (Nat × Byte)) : BuffersCanonical (snapshotIfHeader s bytes) := by
    unfold snapshotIfHeader
    split
    · exact h.takeSnapshot
    · exact h
  unfold Machine.readReleased
  split
  · exact h.of_buffers rfl
  · have observed : BuffersCanonical (observeRead s r) := handRuns_keeps (fun _ _ _ hu => hu.takeReadRun _ _ _) _ _ (snapshot _)
    exact observed.of_buffers rfl

theorem BuffersCanonical.readTransaction {s : State} (h : BuffersCanonical s) (r : ReadResponse) :
    BuffersCanonical (readTransaction s r) := by
  unfold Machine.readTransaction
  split
  · exact h.of_buffers rfl
  · exact BuffersCanonical.readReleased (h.of_buffers (takeDueExpiries_buffers s)) r

/-- Every command keeps the byte buffers canonical and the snapshot at its size. -/
theorem BuffersCanonical.command {s t : State} (h : BuffersCanonical s) (k : CommandLeaves s t) : BuffersCanonical t := by
  have released {event : State → State} (he : ∀ u, (event u).buffers = u.buffers) :
      BuffersCanonical (Machine.whenReleased s event) := h.whenReleased (fun u hu => hu.of_buffers (he u))
  cases k with
  | idle => exact h
  | write w => exact h.writeTransaction w
  | read r => exact h.readTransaction r
  | assertReset => exact buffersCanonical_reset.of_buffers rfl
  | releaseReset _ pageBase prescaler revision => exact h.releaseReset pageBase prescaler revision
  | tick => exact released (fun _ => rfl)
  | refclkPeriod => exact released refclkTime_buffers
  | entry code argument entry => exact released (fun u => takeEntry_buffers u code argument entry)
  | restart => exact h.whenReleased (fun _ hu => hu.takeRestart)
  | unknownEntry code entry => exact released (fun _ => rfl)
  | settleExpiry p => exact h.expiryStep _ (settleExpires_buffers s p)
  | stallExpiry n => exact h.expiryStep _ (stallExpires_buffers s n)
  | checkExpiry n => exact h.expiryStep _ (checkExpires_buffers s n)
  | graceExpiry n => exact h.expiryStep _ rfl

/-- Settles O57. The bytes of a run are written at offsets inside their shadow, in the canonical form, and a snapshot takes 1,024
bytes; no other operation writes a buffer, but for the resets that empty it. -/
theorem stepsKeepTheBuffers : Obligations.StepsKeepTheBuffers := by
  unfold Obligations.StepsKeepTheBuffers
  intro s t h ht
  obtain rfl | ⟨rest, left⟩ := step_leaves ht
  · exact h
  · have waiting : BuffersCanonical { s with pending := rest } := h.of_buffers rfl
    exact waiting.command left

end Sys2Proof.Machine
end

section
/-! PROOF. Writes to a request half that take no request (O24), and the requests answered without their effect: a request of an
unknown kind (O25), a LENGTH (O32) and a FETCH (O27). -/

namespace Sys2Proof.Machine

/-! ### Writes that take no request (R91, R92) -/

/-- A ticket replaced once a write is in its shadow: the write is forwarded, and the ticket is the new one. -/
theorem shadowed_setTicket (s : State) (k : Fin 16) (w : BusWrite) (x : Ticket) : (s.shadowed k w).setTicket k x =
    { s with ports := { s.ports with write := some w }, vu := { s.vu with tickets := s.vu.tickets.set k x } } := by
  simp [State.setTicket, State.shadowed]

/-- Settles O24. -/
theorem requestHalfWritesThatTakeNothing : Obligations.RequestHalfWritesThatTakeNothing := by
  unfold Obligations.RequestHalfWritesThatTakeNothing
  intro s k w falls after stamp
  have written := writeTransaction_request falls
  have stampRead : readByte ((s.shadowed k w).ticket k).shadow 0 = stamp := by rw [shadowed_ticket]
  refine ⟨fun closes => ?_, fun closes zero => ?_, fun closes nonzero same => ?_⟩
  · rw [exec_of_writeOf rfl, written, closes]
    rfl
  · have closed : closeTicket (s.shadowed k w) k = after { stamp := 0, verdict := none, shadow := s.requestAfter k w } := by
      simp only [closeTicket, stampRead, zero, if_true]
      rw [shadowed_setTicket, shadowed_ticket]
    rw [exec_of_writeOf rfl, written, if_pos closes, closed]
  · have entry : ((s.shadowed k w).ticket k).stamp = stamp := by rw [shadowed_ticket]; exact same.symm
    have closed : closeTicket (s.shadowed k w) k = s.shadowed k w := by
      simp only [closeTicket, stampRead, if_neg nonzero, entry, if_true]
    rw [exec_of_writeOf rfl, written, if_pos closes, closed]
    rfl

/-! ### Answers that leave the part as it was, but for a tally (R93) -/

/-- An answer with no effect: the write forwarded, and the answer latched in the ticket. -/
theorem exec_of_answer {s : State} {k : Fin 16} {w : BusWrite} {q : Request} {c : Instr} {v : Verdict} (hc : writeOf c = some w)
    (h : s.brings k w q = true) (decided : decideRequest (s.shadowed k w) q = (v, s.shadowed k w)) :
    exec c s = .next { s with
      ports := { s.ports with write := some w }
      vu := { s.vu with
        tickets := s.vu.tickets.set k { stamp := q.stamp, verdict := some v, shadow := s.requestAfter k w } } } := by
  rw [exec_of_brings hc h decided rfl]
  rfl

/-- A refusal: the answer latched, and one more in the refusals tally. -/
theorem exec_of_refusal {s : State} {k : Fin 16} {w : BusWrite} {q : Request} {c : Instr} {v : Verdict} (hc : writeOf c = some w)
    (h : s.brings k w q = true) (decided : decideRequest (s.shadowed k w) q = refuse (s.shadowed k w) v) :
    exec c s = .next { s with
      ports := { s.ports with write := some w }
      vu := { s.vu with
        tickets := s.vu.tickets.set k { stamp := q.stamp, verdict := some v, shadow := s.requestAfter k w } }
      eru := { s.eru with
        tallies := { s.eru.tallies with refusals := min (s.eru.tallies.refusals + 1) (2 ^ 32 - 1) } } } := by
  rw [exec_of_brings hc h decided rfl]
  rfl

/-! ### A request by its kind (R93) -/

theorem decideRequest_fetch (s : State) {q : Request} (kind : q.kind = 1) : decideRequest s q = decideFetch s q := by
  simp [decideRequest, kind]

theorem decideRequest_length (s : State) {q : Request} (kind : q.kind = 2) : decideRequest s q = decideLength s q := by
  simp [decideRequest, kind]

theorem decideRequest_replace (s : State) {q : Request} (kind : q.kind = 4) : decideRequest s q = decideReplace s q := by
  simp [decideRequest, kind]

theorem decideRequest_unknown (s : State) {q : Request} (kind : q.kind = 0 ∨ 5 ≤ q.kind) :
    decideRequest s q = refuse s (plainVerdict s .badreq q.stamp) := by
  simp (disch := omega) only [decideRequest, if_neg]

/-- Settles O25. -/
theorem unknownKindIsRefused : Obligations.UnknownKindIsRefused := by
  unfold Obligations.UnknownKindIsRefused
  intro s k w q h kind answer latched
  exact exec_of_refusal rfl h (decideRequest_unknown _ kind)

/-! ### LENGTH (R108) -/

theorem decideLength_of_zero {s : State} {q : Request} (h : q.length = 0) :
    decideLength s q = refuse s (plainVerdict s .badreq q.stamp) := if_pos h

/-- With the segment in no unlanded slot it is in no live slot or in a landed one: UNKNOWN either way. -/
theorem decideLength_of_no_unlanded {s : State} {q : Request} (positive : 1 ≤ q.length)
    (h : ∀ m : Fin 8, (s.slot m).state.unlanded = true → (s.slot m).segment ≠ q.segment) :
    decideLength s q = (plainVerdict s .unknown q.stamp, s) := by
  cases holding : s.liveHolding q.segment with
  | none => simp only [decideLength, Nat.ne_of_gt positive, if_false, holding]
  | some n =>
    obtain ⟨⟨live, segment⟩, -⟩ := liveHolding_eq_some.1 holding
    have landed : (s.slot n).state.hasLanded = true := (SlotState.live_iff.1 live).resolve_left (fun hu => h n hu segment)
    simp only [decideLength, Nat.ne_of_gt positive, if_false, holding, landed, if_true]

theorem decideLength_of_present {s : State} {q : Request} {n : Fin 8} (positive : 1 ≤ q.length)
    (holding : s.liveHolding q.segment = some n) (unlanded : (s.slot n).state.unlanded = true)
    (present : (s.slot n).length.isSome = true) :
    decideLength s q = (namingVerdict s .already q.stamp n (s.slot n).rung, s) := by
  have notLanded : (s.slot n).state.hasLanded = false := SlotState.hasLanded_of_unlanded unlanded
  simp only [decideLength, Nat.ne_of_gt positive, if_false, holding, notLanded, Bool.false_eq_true, present, if_true]

/-- Settles O32. -/
theorem lengthIsNotDeclared : Obligations.LengthIsNotDeclared := by
  unfold Obligations.LengthIsNotDeclared
  intro s k w q h kind plain answered refused
  have byKind := decideRequest_length (s.shadowed k w) kind
  refine ⟨fun zero => ?_, fun positive absent => ?_, fun positive n unlanded segment alone present => ?_⟩
  · exact exec_of_refusal rfl h (byKind.trans (decideLength_of_zero zero))
  · exact exec_of_answer rfl h (byKind.trans (decideLength_of_no_unlanded positive absent))
  · have holding : (s.shadowed k w).liveHolding q.segment = some n :=
      liveHolding_eq_some.2 ⟨⟨SlotState.live_of_unlanded unlanded, segment⟩, fun m hm hq => alone m hm.ne hq.1 hq.2⟩
    exact exec_of_answer rfl h (byKind.trans (decideLength_of_present positive holding unlanded present))

/-! ### The steps of a FETCH (R98 to R106) -/

theorem decideFetch_of_unarmed {s : State} (q : Request) (h : s.sc.governor = .dormant ∨ s.sc.governor = .ready) :
    decideFetch s q = (plainVerdict s .notArmed q.stamp, s) := by
  obtain h | h := h <;> simp only [decideFetch, h]

theorem decideFetch_of_suspended {s : State} (q : Request) (h : s.sc.governor = .suspended) :
    decideFetch s q = (plainVerdict s .suspended q.stamp, s) := by
  simp only [decideFetch, h]

section
variable {s : State} {q : Request} (decides : s.sc.governor.decides = true)
include decides

theorem decideFetch_of_invalid (invalid : requestValid s.windows q = false) :
    decideFetch s q = refuse s (plainVerdict s .badreq q.stamp) := by
  obtain go | go := (Governor.decides_iff _).1 decides <;> simp [decideFetch, go, invalid]

theorem decideFetch_of_held {n : Fin 8} (valid : requestValid s.windows q = true)
    (segment : s.liveHolding q.segment = some n) :
    decideFetch s q = refuse s (namingVerdict s .duplicate q.stamp n (s.slot n).rung) := by
  obtain go | go := (Governor.decides_iff _).1 decides <;> simp [decideFetch, go, valid, segment]

theorem decideFetch_of_overlap {n : Fin 8} (valid : requestValid s.windows q = true)
    (segment : s.liveHolding q.segment = none) (window : s.overlapping q = some n) :
    decideFetch s q = refuse s (namingVerdict s .overlap q.stamp n 0) := by
  obtain go | go := (Governor.decides_iff _).1 decides <;> simp [decideFetch, go, valid, segment, window]

theorem decideFetch_of_full (valid : requestValid s.windows q = true) (segment : s.liveHolding q.segment = none)
    (window : s.overlapping q = none) (full : s.lowestFree = none) :
    decideFetch s q = refuse s (plainVerdict s .full q.stamp) := by
  obtain go | go := (Governor.decides_iff _).1 decides <;> simp [decideFetch, go, valid, segment, window, full]

theorem decideFetch_of_hold (valid : requestValid s.windows q = true) (segment : s.liveHolding q.segment = none)
    (window : s.overlapping q = none) (free : s.lowestFree.isSome = true) (level : s.setup.bFull ≤ s.bufferLevel) :
    decideFetch s q = ({ timedVerdict s .hold q.stamp with holdUnits := holdUnits s.bufferLevel s.setup.bTarget },
      growTally s .holds 1) := by
  have some : s.lowestFree.isNone = false := by rw [← Option.not_isSome, free]; rfl
  obtain go | go := (Governor.decides_iff _).1 decides <;> simp [decideFetch, go, valid, segment, window, some, level]

end

/-- With no rung at or below the capped choice that fits, the capacity fit answers SMALL (R106). -/
theorem capFitGo_small {s : State} {q : Request} {choice : Nat} {n : Fin 8} (free : s.lowestFree = some n)
    (noFit : capacityFit s.ladder q.duration q.capacity (capRung s choice) = none) :
    capFitGo s q choice = refuse s (timedVerdict s .small q.stamp) := by
  simp only [capFitGo, free, noFit]

theorem capacityFit_eq_none {l : Ladder} {duration capacity rung : Nat}
    (h : ∀ j, j ≤ rung → capacity < expectedBytes l j duration) : capacityFit l duration capacity rung = none := by
  refine Option.eq_none_iff_forall_ne_some.2 ?_
  rintro ⟨k, e⟩ found
  obtain ⟨below, rfl, fits, -⟩ := capacityFit_some found
  exact absurd fits (Nat.not_le.2 (h k below))

/-- The lowest-numbered live slot whose window shares a byte with the request's (R100). -/
theorem overlapping_eq_some_iff {s : State} {q : Request} {n : Fin 8} : s.overlapping q = some n ↔
    ((s.slot n).state.live = true ∧ q.base < (s.slot n).base + (s.slot n).capacity ∧ (s.slot n).base < q.base + q.capacity)
      ∧ ∀ m, m < n → ¬ ((s.slot m).state.live = true ∧ q.base < (s.slot m).base + (s.slot m).capacity
        ∧ (s.slot m).base < q.base + q.capacity) := by
  simp only [overlapping_eq_some, windowsShare_eq_true]

theorem overlapping_eq_none_iff {s : State} {q : Request} : s.overlapping q = none ↔
    ∀ n, ¬ ((s.slot n).state.live = true ∧ q.base < (s.slot n).base + (s.slot n).capacity
      ∧ (s.slot n).base < q.base + q.capacity) := by
  simp only [overlapping_eq_none, windowsShare_eq_true]

/-- Settles O27. The steps are met in their order: each is reached with every step before it passed. -/
theorem fetchStepsThatEndIt : Obligations.FetchStepsThatEndIt := by
  unfold Obligations.FetchStepsThatEndIt
  intro s k w q h kind plain timed answered refused held valid holds overlaps limit
  have byKind := decideRequest_fetch (s.shadowed k w) kind
  have refusal {v : Verdict} (decided : decideFetch (s.shadowed k w) q = refuse (s.shadowed k w) v) :
      exec (.fetch w) s = .next (answered v refused) := exec_of_refusal rfl h (byKind.trans decided)
  have validity : requestValid (s.shadowed k w).windows q = true ↔ valid := requestValid_iff _ _
  refine ⟨fun unarmed => ?_, fun suspended => ?_, fun decides invalid => ?_, fun decides isValid => ?_⟩
  · exact exec_of_answer rfl h (byKind.trans (decideFetch_of_unarmed q unarmed))
  · exact exec_of_answer rfl h (byKind.trans (decideFetch_of_suspended q suspended))
  · have fails : requestValid (s.shadowed k w).windows q = false := Bool.eq_false_iff.2 (fun hv => invalid (validity.1 hv))
    exact refusal (decideFetch_of_invalid decides fails)
  have deciding : (s.shadowed k w).sc.governor.decides = true := decides
  have passes := validity.2 isValid
  refine ⟨fun n holding lowest => ?_, fun unheld => ?_⟩
  · exact refusal (decideFetch_of_held deciding passes (liveHolding_eq_some.2 ⟨holding, lowest⟩))
  have segment : (s.shadowed k w).liveHolding q.segment = none := liveHolding_eq_none.2 unheld
  refine ⟨fun n shares lowest => ?_, fun apart => ?_⟩
  · exact refusal (decideFetch_of_overlap deciding passes segment (overlapping_eq_some_iff.2 ⟨shares, lowest⟩))
  have window : (s.shadowed k w).overlapping q = none := overlapping_eq_none_iff.2 apart
  refine ⟨fun full => ?_, fun ⟨m, free⟩ => ?_⟩
  · exact refusal (decideFetch_of_full deciding passes segment window (lowestFree_eq_none.2 full))
  obtain ⟨n, slot⟩ : ∃ n, (s.shadowed k w).lowestFree = some n :=
    Option.ne_none_iff_exists'.1 (fun full => lowestFree_eq_none.1 full m free)
  have room : (s.shadowed k w).lowestFree.isSome = true := by rw [slot]; rfl
  refine ⟨fun level => ?_, fun level tooSmall => ?_⟩
  · rw [exec_of_brings rfl h (byKind.trans (decideFetch_of_hold deciding passes segment window room level)) rfl]
    rfl
  · have small := capFitGo_small (choice := rungStep (s.shadowed k w)) slot (capacityFit_eq_none tooSmall)
    exact refusal ((decideFetch_eq_capFitGo deciding passes segment window room level).trans small)

end Sys2Proof.Machine
end

section
/-! PROOF. The rung step (O28), what every GO keeps to (O30), and a REPLACE answered otherwise (O35). -/

namespace Sys2Proof.Machine

/-! ### The rung step (R103, R104) -/

theorem rungStep_of_pinned {s : State} (pinned : s.setup.mode = 1) : rungStep s = s.setup.pinnedRung := if_pos pinned

section
variable {s : State} (adaptive : s.setup.mode ≠ 1)
include adaptive

theorem rungStep_of_panic (level : s.bufferLevel < s.setup.bPanic) : rungStep s = 0 := by
  rw [rungStep, if_neg adaptive, if_pos level]

theorem rungStep_of_warmup (level : s.setup.bPanic ≤ s.bufferLevel) (governor : s.sc.governor = .warmup) :
    rungStep s = s.vu.currentRung := by
  rw [rungStep, if_neg adaptive, if_neg (Nat.not_lt.2 level), if_pos governor]

theorem rungStep_of_adapting (level : s.setup.bPanic ≤ s.bufferLevel) (governor : s.sc.governor ≠ .warmup) :
    rungStep s = adaptingRung s := by
  rw [rungStep, if_neg adaptive, if_neg (Nat.not_lt.2 level), if_neg governor]

end

theorem adaptingRung_of_below {s : State} (h : candidate s.ladder (safeRate s) < s.vu.currentRung) :
    adaptingRung s = candidate s.ladder (safeRate s) := if_pos h

/-- At or above the current rung the candidate draws a rise by one rung, or none (R104). -/
theorem adaptingRung_of_not_below {s : State} (h : s.vu.currentRung ≤ candidate s.ladder (safeRate s)) : adaptingRung s =
    if s.vu.currentRung < candidate s.ladder (safeRate s) ∧ s.setup.bUp ≤ s.bufferLevel ∧ s.te.congestion = .clear
      ∧ s.setup.dwellMin ≤ s.vu.dwell then s.vu.currentRung + 1 else s.vu.currentRung := if_neg (Nat.not_lt.2 h)

/-- Settles O28. -/
theorem rungStepCases : Obligations.RungStepCases := by
  unfold Obligations.RungStepCases
  intro s c r
  have unpinned (adaptive : s.setup.mode = 0) : s.setup.mode ≠ 1 := by omega
  refine ⟨fun _ => rfl, rungStep_of_pinned, fun adaptive => rungStep_of_panic (unpinned adaptive), fun adaptive level =>
    ⟨rungStep_of_warmup (unpinned adaptive) level, fun adapting => ?_⟩⟩
  rw [rungStep_of_adapting (unpinned adaptive) level (by rw [adapting]; nofun)]
  refine ⟨adaptingRung_of_below, fun same => ?_, fun above permitted => ?_, fun above refused => ?_⟩
  · rw [adaptingRung_of_not_below same.ge, if_neg (fun rise => rise.1.ne' same)]
  · rw [adaptingRung_of_not_below above.le, if_pos ⟨above, permitted⟩]
  · rw [adaptingRung_of_not_below above.le, if_neg (fun rise => refused rise.2)]

/-- But for PINNED the rung step rises by at most one rung (R103, R104). -/
theorem rungStep_le_succ {s : State} (adaptive : s.setup.mode ≠ 1) : rungStep s ≤ s.vu.currentRung + 1 := by
  rcases Nat.lt_or_ge s.bufferLevel s.setup.bPanic with panic | level
  · rw [rungStep_of_panic adaptive panic]; exact Nat.zero_le _
  by_cases governor : s.sc.governor = .warmup
  · rw [rungStep_of_warmup adaptive level governor]; exact Nat.le_succ _
  rw [rungStep_of_adapting adaptive level governor]
  rcases Nat.lt_or_ge (candidate s.ladder (safeRate s)) s.vu.currentRung with below | notBelow
  · rw [adaptingRung_of_below below]; omega
  · rw [adaptingRung_of_not_below notBelow]
    split <;> omega

/-! ### GO verdicts (R105 to R107, R111) -/

/-- A GO from the last steps of a decision: a rung at or below the capped choice, in the lowest slot that was FREE (R105 to R107). -/
theorem capFitGo_of_go {s : State} {q : Request} {choice : Nat} (go : (capFitGo s q choice).1.code = .go) :
    (capFitGo s q choice).1.rung ≤ capRung s choice
      ∧ ∃ n, s.lowestFree = some n ∧ (capFitGo s q choice).1.slot = n.val
        ∧ ((capFitGo s q choice).2.slot n).state = .issued := by
  obtain ⟨-, full⟩ | ⟨n, -, -, small⟩ | ⟨n, k, e, free, fit, answered⟩ := capFitGo_cases s q choice
  · rw [full] at go; nomatch go
  · rw [small] at go; nomatch go
  · have issued : (noteRung (allocate s n q k e) k).slot n = issuedSlot q k e s.now :=
      ((sameTable_noteRung _ k).slot n).trans (State.slot_setSlot_same s n _)
    rw [answered]
    exact ⟨(capacityFit_some fit).1, n, free, rfl, by rw [issued]; rfl⟩

/-- A FETCH answered GO came to the last steps with the choice of the rung step (R97). -/
theorem decideFetch_of_go (s : State) (q : Request) :
    (decideFetch s q).1.code ≠ .go ∨ decideFetch s q = capFitGo s q (rungStep s) := by
  unfold decideFetch
  split
  case h_1 | h_2 | h_3 => exact .inl nofun
  all_goals
    split
    · exact .inl nofun
    split
    · exact .inl nofun
    split
    · exact .inl nofun
    split
    · exact .inl nofun
    split
    · exact .inl nofun
    · exact .inr rfl

theorem decideLength_not_go (s : State) (q : Request) : (decideLength s q).1.code ≠ .go := by
  unfold decideLength
  split
  · nofun
  split
  · nofun
  split
  · nofun
  split <;> nofun

theorem decideDrop_not_go (s : State) (q : Request) : (decideDrop s q).1.code ≠ .go := by
  unfold decideDrop
  split <;> nofun

/-- A REPLACE answered GO freed an unlanded slot above rung 0 and came to the last steps with a choice below its rung (R110, R111). -/
theorem decideReplace_of_go (s : State) (q : Request) : (decideReplace s q).1.code ≠ .go
    ∨ ∃ old, s.unlandedHolding q.segment = some old ∧ ∃ choice, choice < (s.slot old).rung
      ∧ decideReplace s q = capFitGo (freeSlot s old) q choice := by
  unfold decideReplace
  split
  case h_1 | h_2 | h_3 => exact .inl nofun
  all_goals
    split
    · exact .inl nofun
    rename_i old holding
    split
    · exact .inl nofun
    rename_i rung
    unfold decideRefetch
    split
    · exact .inl nofun
    split
    · exact .inl nofun
    · have choice : replacementChoice (rungStep (freeSlot s old)) (s.slot old).advisedRung (s.slot old).rung
          ≤ (s.slot old).rung - 1 := min_le_right _ _
      exact .inr ⟨old, holding, _, by omega, rfl⟩

/-- A request answered GO is a FETCH with the choice of the rung step, or a REPLACE with a choice below the old rung (R97, R111). -/
theorem decideRequest_of_go {s : State} {q : Request} (go : (decideRequest s q).1.code = .go) :
    (q.kind = 1 ∧ decideRequest s q = capFitGo s q (rungStep s))
    ∨ q.kind = 4 ∧ ∃ old, s.unlandedHolding q.segment = some old ∧ ∃ choice, choice < (s.slot old).rung
      ∧ decideRequest s q = capFitGo (freeSlot s old) q choice := by
  unfold decideRequest at go ⊢
  split at go
  · rename_i fetch
    rw [if_pos fetch]
    exact .inl ⟨fetch, (decideFetch_of_go s q).resolve_left (not_not.2 go)⟩
  split at go
  · exact absurd go (decideLength_not_go s q)
  split at go
  · exact absurd go (decideDrop_not_go s q)
  split at go
  · rename_i fetch length drop replace
    rw [if_neg fetch, if_neg length, if_neg drop, if_pos replace]
    obtain ⟨old, holding, choice⟩ := (decideReplace_of_go s q).resolve_left (not_not.2 go)
    exact .inr ⟨replace, old, holding, choice⟩
  · nomatch go

/-- Settles O30. A GO is the answer of the last steps of a FETCH, or of a REPLACE with its old slot freed. -/
theorem goVerdictsStayInBounds : Obligations.GoVerdictsStayInBounds := by
  unfold Obligations.GoVerdictsStayInBounds
  intro s u k w q c v h hc ran latched go
  rw [exec_of_writeOf hc, writeTransaction_brings h] at ran
  obtain rfl := Host.Outcome.next.inj ran
  rw [latch, State.ticket_setTicket_same] at latched
  obtain rfl := Option.some.inj latched
  obtain ⟨kind, decided⟩ | ⟨kind, old, holding, choice, below, decided⟩ := decideRequest_of_go go
  all_goals
    rw [decided] at go ⊢
    obtain ⟨capped, n, free, slot, issued⟩ := capFitGo_of_go go
    have chosen := capped.trans (min_le_left _ _)
    have cap := capped.trans (capRung_le _ _)
    have top := capped.trans ((min_le_right _ _).trans (min_le_right _ _))
    have wasFree := (lowestFree_eq_some.1 free).1
  · exact ⟨cap, top, ⟨n, slot, issued, .inl wasFree⟩, fun _ adaptive => chosen.trans (rungStep_le_succ adaptive),
      fun replace => by omega⟩
  · refine ⟨cap, top, ⟨n, slot, issued, ?_⟩, fun fetch => by omega, fun _ => ⟨old, holding, chosen.trans_lt below⟩⟩
    by_cases replaced : n = old
    · exact .inr ⟨kind, replaced ▸ holding⟩
    · rw [freeSlot_slot_other _ replaced] at wasFree
      exact .inl wasFree

/-! ### The steps of a REPLACE (R110, R111) -/

theorem decideReplace_of_unarmed {s : State} (q : Request) (h : s.sc.governor = .dormant ∨ s.sc.governor = .ready) :
    decideReplace s q = (plainVerdict s .notArmed q.stamp, s) := by
  obtain h | h := h <;> simp only [decideReplace, h]

theorem decideReplace_of_suspended {s : State} (q : Request) (h : s.sc.governor = .suspended) :
    decideReplace s q = (plainVerdict s .suspended q.stamp, s) := by
  simp only [decideReplace, h]

section
variable {s : State} {q : Request} (decides : s.sc.governor.decides = true)
include decides

theorem decideReplace_of_unheld (holding : s.unlandedHolding q.segment = none) :
    decideReplace s q = (plainVerdict s .unknown q.stamp, s) := by
  obtain go | go := (Governor.decides_iff _).1 decides <;> simp only [decideReplace, go, holding]

theorem decideReplace_of_lowest {old : Fin 8} (holding : s.unlandedHolding q.segment = some old)
    (rung : (s.slot old).rung = 0) : decideReplace s q = refuse s (plainVerdict s .badreq q.stamp) := by
  obtain go | go := (Governor.decides_iff _).1 decides <;> simp only [decideReplace, go, holding, rung, if_true]

theorem decideReplace_eq_decideRefetch {old : Fin 8} (holding : s.unlandedHolding q.segment = some old)
    (rung : 1 ≤ (s.slot old).rung) : decideReplace s q = decideRefetch (freeSlot s old) q (s.slot old) := by
  obtain go | go := (Governor.decides_iff _).1 decides <;>
    simp only [decideReplace, go, holding, Nat.ne_of_gt rung, if_false]

end

theorem decideRefetch_of_invalid {s : State} {q : Request} (old : Slot) (invalid : requestValid s.windows q = false) :
    decideRefetch s q old = refuse s (plainVerdict s .badreq q.stamp) := by
  simp [decideRefetch, invalid]

theorem decideRefetch_of_overlap {s : State} {q : Request} (old : Slot) {n : Fin 8} (valid : requestValid s.windows q = true)
    (window : s.overlapping q = some n) : decideRefetch s q old = refuse s (namingVerdict s .overlap q.stamp n 0) := by
  simp [decideRefetch, valid, window]

theorem decideRefetch_eq_capFitGo {s : State} {q : Request} (old : Slot) (valid : requestValid s.windows q = true)
    (window : s.overlapping q = none) :
    decideRefetch s q old = capFitGo s q (replacementChoice (rungStep s) old.advisedRung old.rung) := by
  simp [decideRefetch, valid, window]

/-- With a slot freed a window shares bytes with those of the other live slots alone (R54, R100). -/
theorem freeSlot_shares_iff (s : State) (q : Request) (old m : Fin 8) :
    (((freeSlot s old).slot m).state.live = true
      ∧ q.base < ((freeSlot s old).slot m).base + ((freeSlot s old).slot m).capacity
      ∧ ((freeSlot s old).slot m).base < q.base + q.capacity)
    ↔ m ≠ old ∧ (s.slot m).state.live = true ∧ q.base < (s.slot m).base + (s.slot m).capacity
      ∧ (s.slot m).base < q.base + q.capacity := by
  by_cases hm : m = old
  · rw [hm, freeSlot_slot_same]
    exact iff_of_false nofun (fun shares => shares.1 rfl)
  · rw [freeSlot_slot_other s hm]
    exact (and_iff_right hm).symm

/-- With a slot freed there is a FREE slot (R54). -/
theorem lowestFree_freeSlot (s : State) (old : Fin 8) : ∃ n, (freeSlot s old).lowestFree = some n :=
  Option.ne_none_iff_exists'.1 (fun full => lowestFree_eq_none.1 full old (by rw [freeSlot_slot_same]; rfl))

/-- On a legal ladder a request whose bytes rung 0 exceeds is answered SMALL, whatever the choice (R106). -/
theorem capFitGo_small_of_lowest {s : State} {q : Request} {n : Fin 8} (choice : Nat) (free : s.lowestFree = some n)
    (legal : LadderLegal s.ladder) (tooSmall : q.capacity < expectedBytes s.ladder 0 q.duration) :
    capFitGo s q choice = refuse s (timedVerdict s .small q.stamp) := by
  have top : capRung s choice ≤ rungCount s.ladder - 1 := (min_le_right _ _).trans (min_le_right _ _)
  have onLadder : capRung s choice < rungCount s.ladder := by
    have count := legal.count.1
    omega
  exact capFitGo_small free ((legal.capacityFit_eq_none_iff onLadder).2 tooSmall)

/-- Settles O35. The first four answers leave the old slot; the later ones are those of the state in which it is freed. -/
theorem replaceStepsThatEndIt : Obligations.ReplaceStepsThatEndIt := by
  unfold Obligations.ReplaceStepsThatEndIt
  intro s k w q h kind plain answered counted holds valid
  have byKind := decideRequest_replace (s.shadowed k w) kind
  refine ⟨fun unarmed => ?_, fun suspended => ?_, fun decides => ?_⟩
  · exact exec_of_answer rfl h (byKind.trans (decideReplace_of_unarmed q unarmed))
  · exact exec_of_answer rfl h (byKind.trans (decideReplace_of_suspended q suspended))
  have deciding : (s.shadowed k w).sc.governor.decides = true := decides
  refine ⟨fun unheld => ?_, fun old isHeld lowest => ?_⟩
  · exact exec_of_answer rfl h (byKind.trans (decideReplace_of_unheld deciding (unlandedHolding_eq_none.2 unheld)))
  intro freed overlaps small
  have holding : (s.shadowed k w).unlandedHolding q.segment = some old := unlandedHolding_eq_some.2 ⟨isHeld, lowest⟩
  have validity : requestValid (freeSlot (s.shadowed k w) old).windows q = true ↔ valid := requestValid_iff _ _
  have shares := freeSlot_shares_iff (s.shadowed k w) q old
  have refusal {v : Verdict} (rung : 1 ≤ (s.slot old).rung)
      (decided : decideRefetch (freeSlot (s.shadowed k w) old) q (s.slot old)
        = refuse (freeSlot (s.shadowed k w) old) v) : exec (.replace w) s = .next (answered v counted freed) := by
    rw [exec_of_brings rfl h (byKind.trans ((decideReplace_eq_decideRefetch deciding holding rung).trans decided)) rfl]
    rfl
  refine ⟨fun zero => ?_, fun rung invalid => ?_, fun rung isValid m share first => ?_, fun rung isValid apart legal tooSmall => ?_⟩
  · exact exec_of_refusal rfl h (byKind.trans (decideReplace_of_lowest deciding holding zero))
  · have fails : requestValid (freeSlot (s.shadowed k w) old).windows q = false :=
      Bool.eq_false_iff.2 (fun hv => invalid (validity.1 hv))
    exact refusal rung (decideRefetch_of_invalid _ fails)
  · have window : (freeSlot (s.shadowed k w) old).overlapping q = some m :=
      overlapping_eq_some_iff.2 ⟨(shares m).2 share, fun j hj hs => first j hj ((shares j).1 hs)⟩
    exact refusal rung (decideRefetch_of_overlap _ (validity.2 isValid) window)
  · have window : (freeSlot (s.shadowed k w) old).overlapping q = none :=
      overlapping_eq_none_iff.2 (fun j hs => apart j ((shares j).1 hs))
    obtain ⟨n, free⟩ := lowestFree_freeSlot (s.shadowed k w) old
    refine refusal rung ?_
    rw [decideRefetch_eq_capFitGo _ (validity.2 isValid) window]
    exact capFitGo_small_of_lowest _ free legal tooSmall

end Sys2Proof.Machine
end

section
/-! PROOF. Expiry steps that find their timer due: the grace expiry (O10), the stall expiry (O8) and the check expiry (O9). -/

namespace Sys2Proof.Machine

/-- An expiry step with RST released and its timer due is its event (R34). -/
theorem expiryStep_of_due {s : State} {due : State → Bool} (released : s.pif.resetAsserted = false) (h : due s = true)
    (event : State → State) : expiryStep s due event = event s := by
  simp [expiryStep, released, h]

/-- Settles O10. -/
theorem graceExpiryReportsUnheeded : Obligations.GraceExpiryReportsUnheeded := by
  unfold Obligations.GraceExpiryReportsUnheeded
  intro s n released due
  have expires : exec (.graceExpiry n) s = .next (graceExpires s n) :=
    congrArg Host.Outcome.next (expiryStep_of_due released due _)
  rw [expires]
  rfl

/-! ### When advice is given (R119 to R121) -/

theorem adviceAllowed_iff (s : State) (x : Slot) : adviceAllowed s x = true ↔
    s.sc.governor.decides = true ∧ s.setup.mode = 0 ∧ s.setup.abandonEnable = 1 ∧ 1 ≤ x.rung := by
  simp only [adviceAllowed, Bool.and_eq_true, Bool.or_eq_true, decide_eq_true_eq, Governor.decides_iff, and_assoc]
  rfl

/-- For a rate so far above 0 the projection is the exact quotient rounded up (R121): both are the least number of milliseconds
in which that rate brings the bytes that remain. -/
theorem projection_eq_ceil {y : Nat} (positive : 0 < y) (r : Nat) : (projection r y : Int) = ⌈(8 * r : ℚ) / y⌉ := by
  have least : projection r y = ⌈(8 * r : ℚ) / y⌉₊ := by
    refine eq_of_forall_ge_iff (fun c => ?_)
    calc projection r y ≤ c ↔ r * 8 ≤ y * c := ceilDiv_le_iff_le_mul positive
      _ ↔ (8 * r : ℚ) ≤ c * y := by rw [mul_comm r, mul_comm y]; exact_mod_cast Iff.rfl
      _ ↔ (8 * r : ℚ) / y ≤ c := (div_le_iff₀ (by exact_mod_cast positive)).symm
      _ ↔ ⌈(8 * r : ℚ) / y⌉₊ ≤ c := Nat.ceil_le.symm
  rw [least, Int.natCast_ceil_eq_ceil (by positivity)]

/-- A fetch is judged late when bytes remain and the rate so far is 0 or the projection exceeds B − guard (R120, R121). -/
theorem judgedLate_iff (x : Slot) (level guard : Nat) : judgedLate x level guard = true ↔
    0 < x.remaining ∧ (x.rateSoFar = 0 ∨ (level : Int) - guard < ⌈(8 * x.remaining : ℚ) / x.rateSoFar⌉) := by
  simp only [judgedLate, Bool.and_eq_true, Bool.or_eq_true, decide_eq_true_eq]
  refine and_congr_right (fun _ => or_congr_right' (fun moving => ?_))
  rw [projection_eq_ceil (Nat.pos_of_ne_zero moving)]

/-! ### What advice does (R122, R123) -/

/-- Advice on a slot as one change of the state (R122, R123). -/
theorem advise_eq {s : State} {n : Fin 8} {x : Slot} {running : SlotTimers} (slot : s.slot n = x)
    (timers : s.timers n = running) : advise s n = { s with
      stu := { s.stu with
        slots := s.stu.slots.set n { x with state := .advised, advisedRung := some (replacementRung s x) } }
      pm := { timers := s.pm.timers.set n { running with check := none, grace := startTimer s.now s.setup.graceTime } }
      eru := { s.eru with
        flags := s.eru.flags ||| 0x001
        tallies := { s.eru.tallies with advices := min (s.eru.tallies.advices + 1) (2 ^ 32 - 1) } } } := by
  subst slot timers
  rfl

/-! ### The stall expiry (R115, R124, R125) -/

/-- Settles O8. -/
theorem stallExpiryMarksAndAdvises : Obligations.StallExpiryMarksAndAdvises := by
  unfold Obligations.StallExpiryMarksAndAdvises
  intro s n released due x permitted y rung grace stalls
  have expires : exec (.stallExpiry n) s = .next (stallExpires s n) :=
    congrArg Host.Outcome.next (expiryStep_of_due released due _)
  have advises : ((decide (x.state = .issued) || decide (x.state = .filling)) && adviceAllowed s x) = true ↔ permitted := by
    rw [Bool.and_eq_true, adviceAllowed_iff, Bool.or_eq_true, decide_eq_true_eq, decide_eq_true_eq, and_comm]
    simp only [permitted, and_assoc]
  rw [expires]
  refine ⟨fun refused => ?_, fun given => ?_⟩
  · exact congrArg Host.Outcome.next (if_neg (mt advises.1 refused))
  · have advised : stallExpires s n = _ := calc
      stallExpires s n = advise (reportEvent ((s.setTimers n { s.timers n with stall := none }).setSlot n
          { x with stalled := true }) .stall .stalls) n := if_pos (advises.2 given)
      _ = _ := advise_eq (x := { x with stalled := true }) (running := { s.timers n with stall := none })
          (by simp) (by simp)
    rw [advised]
    -- the marked record and the stopped timers are each replaced once more
    simp only [reportEvent_stu, reportEvent_pm, State.setSlot_slots, State.setSlot_pm, State.setTimers_stu,
      State.setTimers_all, Vector.set_set]
    rfl

/-! ### The check expiry (R116, R119 to R122) -/

/-- Settles O9. -/
theorem checkExpiryJudgesTheFetch : Obligations.CheckExpiryJudgesTheFetch := by
  unfold Obligations.CheckExpiryJudgesTheFetch
  intro s n released due filling x y r late permitted rung grace again
  have expires : exec (.checkExpiry n) s = .next (checkExpires s n) :=
    congrArg Host.Outcome.next (expiryStep_of_due released due _)
  have advises : (judgedLate x s.bufferLevel s.setup.guard && adviceAllowed s x) = true ↔ late ∧ permitted := by
    rw [Bool.and_eq_true, judgedLate_iff, adviceAllowed_iff]
    rfl
  rw [expires, checkExpires, if_pos filling]
  refine ⟨fun given => ?_, fun refused => ?_⟩
  · rw [if_pos (advises.2 given), advise_eq rfl rfl]
    rfl
  · rw [if_neg (mt advises.1 refused)]
    rfl

end Sys2Proof.Machine
end

section
/-! PROOF. The check code and a changed byte (O23), a settle expiry of a pending record (O7), and the records that are not taken
(O21). -/

namespace Sys2Proof.Machine

/-! ### Feeding is linear over xor (R134) -/

/-- A feed shifts the register, and the bit shifted out, added to the bit fed, says whether 0x38A5 is added (R134, step 3). -/
theorem feedBit_eq_xor (r : BitVec 16) (b : Bool) :
    feedBit r b = (r <<< 1) ^^^ (if xor b r.msb then 0x38A5 else 0) := by
  unfold feedBit
  split
  · rfl
  · exact (BitVec.xor_zero).symm

theorem feedBit_xor (r r' : BitVec 16) (b b' : Bool) :
    feedBit (r ^^^ r') (xor b b') = feedBit r b ^^^ feedBit r' b' := by
  have added (c c' : Bool) : (if xor c c' then 0x38A5 else 0 : BitVec 16)
      = (if c then 0x38A5 else 0) ^^^ (if c' then 0x38A5 else 0) := by
    revert c c'; decide
  have shiftedOut : xor (xor b b') (r ^^^ r').msb = xor (xor b r.msb) (xor b' r'.msb) := by
    simp only [BitVec.msb_xor, Bool.xor_assoc, Bool.xor_left_comm]
  simp only [feedBit_eq_xor, shiftedOut, added, BitVec.shiftLeft_xor_distrib]
  ac_rfl

theorem feedByte_xor (r r' : BitVec 16) (b b' : Byte) :
    feedByte (r ^^^ r') (b ^^^ b') = feedByte r b ^^^ feedByte r' b' := by
  have feeds (l : List Nat) : l.foldl (fun x i => feedBit x ((b ^^^ b').getLsbD i)) (r ^^^ r')
      = l.foldl (fun x i => feedBit x (b.getLsbD i)) r ^^^ l.foldl (fun x i => feedBit x (b'.getLsbD i)) r' := by
    induction l generalizing r r' with
    | nil => rfl
    | cons i l ih => rw [List.foldl_cons, BitVec.getLsbD_xor, feedBit_xor, ih]; rfl
  exact feeds _

/-! ### What a feed loses: nothing -/

/-- Bit 0 of 0x38A5 is set, so bit 0 of the register tells whether it was added, and the shift can be undone. -/
theorem eq_zero_of_feedBit_false {d : BitVec 16} (h : feedBit d false = 0#16) : d = 0#16 := by
  rw [feedBit_eq_xor, Bool.false_xor, BitVec.xor_eq_zero_iff] at h
  cases top : d.msb with
  | true =>
    have low := congrArg (BitVec.getLsbD · 0) h
    simp [top] at low
  | false =>
    have short : 2 * d.toNat < 2 ^ 16 := BitVec.msb_eq_false_iff_two_mul_lt.1 top
    rw [top, if_neg Bool.false_ne_true] at h
    have shifted : d.toNat <<< 1 % 2 ^ 16 = 0 := congrArg BitVec.toNat h
    rw [Nat.shiftLeft_eq] at shifted
    bv_omega

/-- Two feeds agree exactly where their difference, fed, leaves an empty register. -/
theorem feedByte_eq_iff (r r' : BitVec 16) (b b' : Byte) :
    feedByte r b = feedByte r' b' ↔ feedByte (r ^^^ r') (b ^^^ b') = 0#16 := by
  rw [feedByte_xor, BitVec.xor_eq_zero_iff]

/-- The same byte fed to two registers: their difference is lost in none of its eight bits. -/
theorem feedByte_left_injective (b : Byte) : Function.Injective (fun r => feedByte r b) := by
  intro r r' same
  have fed := (feedByte_eq_iff r r' b b).1 same
  rw [BitVec.xor_self] at fed
  have undone (l : List Nat) (d : BitVec 16) (h : l.foldl (fun x i => feedBit x ((0#8).getLsbD i)) d = 0#16) : d = 0#16 := by
    induction l generalizing d with
    | nil => exact h
    | cons i l ih => exact eq_zero_of_feedBit_false (by simpa using ih _ h)
  exact BitVec.xor_eq_zero_iff.1 (undone _ _ fed)

/-- No byte but 0 leaves an empty register empty: it is too short for a multiple of the generator. -/
theorem feedByte_zero_ne_zero : ∀ d : Byte, d ≠ 0#8 → feedByte 0#16 d ≠ 0#16 := by decide

/-- Two bytes fed to the same register. -/
theorem feedByte_right_injective (r : BitVec 16) : Function.Injective (feedByte r) := by
  intro b b' same
  have fed := (feedByte_eq_iff r r b b').1 same
  rw [BitVec.xor_self] at fed
  by_contra differ
  exact feedByte_zero_ne_zero _ (mt BitVec.xor_eq_zero_iff.1 differ) fed

/-! ### The check code of a record with one byte changed (R134) -/

theorem feedFrom_congr {m m' : ByteStore} {offset count : Nat}
    (same : ∀ b, offset ≤ b → b < offset + count → readByte m b = readByte m' b) (r : BitVec 16) :
    feedFrom m r offset count = feedFrom m' r offset count := by
  induction count generalizing r offset with
  | zero => rfl
  | succ count ih =>
    rw [feedFrom, feedFrom, same offset le_rfl (by omega)]
    exact ih (fun b low high => same b (by omega) (by omega)) _

theorem feedFrom_injective (m : ByteStore) (offset count : Nat) : Function.Injective (fun r => feedFrom m r offset count) := by
  induction count generalizing offset with
  | zero => exact fun _ _ same => same
  | succ count ih => exact (ih (offset + 1)).comp (feedByte_left_injective (readByte m offset))

/-- A record's check code is fed from the bytes below one of its bytes, that byte, and the bytes above it. -/
theorem checkCode_split (m : ByteStore) {p : Position} {below above : Nat} (size : positionSize p - 2 = below + (above + 1)) :
    checkCode m p = feedFrom m (feedByte (feedFrom m 0x0001 (positionOffset p) below) (readByte m (positionOffset p + below)))
      (positionOffset p + below + 1) above := by
  rw [checkCode, size, feedFrom_add, feedFrom]

/-- Settles O23. The registers agree up to the changed byte, differ after it, and no byte fed later makes them agree again. -/
theorem checkCodeCatchesAChangedByte : Obligations.CheckCodeCatchesAChangedByte := by
  unfold Obligations.CheckCodeCatchesAChangedByte
  intro m m' p a low high same changed codes
  obtain ⟨below, rfl⟩ := Nat.exists_eq_add_of_le low
  obtain ⟨above, size⟩ : ∃ above, positionSize p - 2 = below + (above + 1) :=
    ⟨positionSize p - 2 - below - 1, by omega⟩
  rw [checkCode_split m size, checkCode_split m' size, feedFrom_congr (fun b _ _ => same b (by omega)) 0x0001,
    feedFrom_congr (offset := positionOffset p + below + 1) (fun b _ _ => same b (by omega))] at codes
  exact changed (feedByte_right_injective _ (feedFrom_injective m' _ _ codes))

/-! ### A settle expiry of a pending record (R136, R137) -/

theorem settleExpires_of_pending {s : State} {p : Position} (pending : (s.position p).pending = true) :
    settleExpires s p = reportRejection (s.setPosition p (s.position p).settled) p .check := if_pos pending

/-- What a record position holds stands in CCU alone. -/
theorem setPosition_eq (s : State) (p : Position) (x : PositionState) :
    s.setPosition p x = { s with ccu := (s.setPosition p x).ccu } := by cases p <;> rfl

/-- A rejection's note and report change CCU and ERU alone (R137). -/
theorem reportRejection_eq (s : State) (p : Position) (reason : RejectReason) : reportRejection s p reason = { s with
    ccu := { s.ccu with
      rejectionNote := some { position := p, reason := reason, stamp := readByte s.ccu.shadow (positionOffset p) } }
    eru := { s.eru with
      flags := s.eru.flags ||| 0x040
      tallies := { s.eru.tallies with rejections := min (s.eru.tallies.rejections + 1) (2 ^ 32 - 1) } } } := rfl

/-- Settles O7. -/
theorem settleExpiryRejectsThePendingRecord : Obligations.SettleExpiryRejectsThePendingRecord := by
  unfold Obligations.SettleExpiryRejectsThePendingRecord
  intro s p released due pending
  have expires : exec (.settleExpiry p) s = .next (settleExpires s p) :=
    congrArg Host.Outcome.next (expiryStep_of_due released due _)
  refine ⟨_, expires, (settleExpires_position s p p).trans (if_pos rfl),
    fun q other => (settleExpires_position s p q).trans (if_neg other), ?_⟩
  rw [settleExpires_of_pending pending, reportRejection_eq, setPosition_eq]
  simp

/-! ### Records that are not taken (R135) -/

theorem evaluate_of_stamp_zero {s : State} {p : Position} (stamp : shadowStamp s p = 0) :
    evaluate s p = s.setPosition p (s.position p).settled := if_pos stamp

theorem evaluate_of_mismatch {s : State} {p : Position} (stamp : shadowStamp s p ≠ 0)
    (broken : checkMatches s.ccu.shadow p = false) :
    evaluate s p = s.setPosition p { s.position p with pending := true, settle := some s.now } := by
  rw [evaluate, if_neg stamp, broken]
  rfl

/-- A whole record under a known stamp takes no action, and no more does one of stamp 0. -/
theorem evaluate_of_known {s : State} {p : Position} (whole : checkMatches s.ccu.shadow p = true)
    (known : shadowStamp s p = (s.position p).adoptedStamp ∨ shadowStamp s p = (s.position p).rejectedStamp) :
    evaluate s p = s.setPosition p (s.position p).settled := by
  by_cases stamp : shadowStamp s p = 0
  · exact evaluate_of_stamp_zero stamp
  · rw [evaluate, if_neg stamp, whole, if_pos known]
    rfl

/-- Settles O21. -/
theorem recordsThatAreNotTaken : Obligations.RecordsThatAreNotTaken := by
  unfold Obligations.RecordsThatAreNotTaken
  intro s p w falls after
  have evaluated : exec (recordWrite p w) s = .next (evaluate (s.captured w) p) := by
    rw [exec_recordWrite, writeTransaction_control falls]
  have position : (s.captured w).position p = s.position p := captured_position s w p
  rw [evaluated]
  refine ⟨fun stamp => ?_, fun stamp broken => ?_, fun whole known => ?_⟩
  · rw [evaluate_of_stamp_zero (s := s.captured w) stamp, position]
    rfl
  · rw [evaluate_of_mismatch (s := s.captured w) stamp broken, position]
    rfl
  · rw [evaluate_of_known (s := s.captured w) whole (by rwa [position]), position]
    rfl

end Sys2Proof.Machine
end

section
/-! PROOF. The directives of the event unit: ACK, ENABLE and CLEAR_TALLIES, and the EVT line after them (O14). -/

namespace Sys2Proof.Machine

/-- Two masks share a bit exactly when their conjunction is not 0. -/
theorem and_ne_zero_iff {w : Nat} (a b : BitVec w) :
    a &&& b ≠ 0 ↔ ∃ k : Fin w, a.getLsbD k = true ∧ b.getLsbD k = true := by
  constructor
  · intro apart
    by_contra unshared
    refine apart (BitVec.eq_of_getLsbD_eq fun i hi => ?_)
    have bit : ¬ (a.getLsbD i = true ∧ b.getLsbD i = true) := fun h => unshared ⟨⟨i, hi⟩, h⟩
    simpa using bit
  · rintro ⟨k, ha, hb⟩ zero
    have bit : (a &&& b).getLsbD k = true := by rw [BitVec.getLsbD_and, ha, hb]; rfl
    simp [zero] at bit

/-- The EVT line is high exactly when some set flag is enabled (R149). -/
theorem evt_iff (s : State) :
    s.evt = true ↔ ∃ k : Fin 9, s.eru.flags.getLsbD k = true ∧ s.eru.enables.getLsbD k = true :=
  decide_eq_true_iff.trans (and_ne_zero_iff _ _)

/-- ACK clears the flags that bits 0..8 of its argument name (R147). -/
theorem ackFlags_flag (s : State) (mask : BitVec 32) (k : Fin 9) :
    (ackFlags s mask).eru.flags.getLsbD k = (s.eru.flags.getLsbD k && !mask.getLsbD k) := by
  simp [ackFlags]

/-- ENABLE takes bits 0..8 of its argument as the mask (R148). -/
theorem setEnables_enable (s : State) (mask : BitVec 32) (k : Fin 9) :
    (setEnables s mask).eru.enables.getLsbD k = mask.getLsbD k := by
  simp [setEnables]

/-- Settles O14. -/
theorem ackEnableAndClearTallies : Obligations.AckEnableAndClearTallies := by
  unfold Obligations.AckEnableAndClearTallies
  intro s mask taken
  have runs (event : State → State) :
      Host.Outcome.next (ρ := Refusal) (φ := Fault) (whenReleased s event) = .next (event s) :=
    congrArg Host.Outcome.next (whenReleased_of_takesEvents taken event)
  refine ⟨⟨ackFlags s mask, runs _, rfl, ackFlags_flag s mask, evt_iff _⟩,
    ⟨setEnables s mask, runs _, rfl, setEnables_enable s mask, ?_⟩, runs _⟩
  simp only [evt_iff, setEnables_enable]
  rfl

end Sys2Proof.Machine
end

section
/-! PROOF. Tallies that only grow: what growing a tally does to all 23, and the operations of the part that do no more to them than
that, up to the runs of a transaction (O55). -/

namespace Sys2Proof.Machine

/-! ### Tallies that grow (R150) -/

/-- `b` is `a` with tallies grown, one after another. -/
inductive TalliesGrown (a : Tallies) : Tallies → Prop where
  | same : TalliesGrown a a
  | grow {b : Tallies} (h : TalliesGrown a b) (kind : TallyKind) (k : Nat) : TalliesGrown a (growTallies b kind k)

theorem TalliesGrown.trans {a b c : Tallies} (h : TalliesGrown a b) (g : TalliesGrown b c) : TalliesGrown a c := by
  induction g with
  | same => exact h
  | grow _ kind k ih => exact ih.grow kind k

theorem TalliesGrown.inRange {a b : Tallies} (h : TalliesGrown a b) (range : TalliesInRange a) : TalliesInRange b := by
  induction h with
  | same => exact range
  | grow _ kind k ih => exact tallies_inRange_grow ih kind k

/-- No tally of `a` is above that of `b`. -/
structure TalliesLe (a b : Tallies) : Prop where
  landed : a.landed ≤ b.landed
  gated : a.gated ≤ b.gated
  underruns : a.underruns ≤ b.underruns
  stalls : a.stalls ≤ b.stalls
  advices : a.advices ≤ b.advices
  unheeded : a.unheeded ≤ b.unheeded
  upSwitches : a.upSwitches ≤ b.upSwitches
  downSwitches : a.downSwitches ≤ b.downSwitches
  holds : a.holds ≤ b.holds
  rejections : a.rejections ≤ b.rejections
  refusals : a.refusals ≤ b.refusals
  dwellTime : ∀ k : Fin 12, a.dwellTime[k] ≤ b.dwellTime[k]

theorem TalliesLe.refl (a : Tallies) : TalliesLe a a := by
  constructor
  case dwellTime => exact fun _ => le_rfl
  all_goals exact le_rfl

theorem TalliesLe.trans {a b c : Tallies} (h : TalliesLe a b) (g : TalliesLe b c) : TalliesLe a c where
  landed := h.landed.trans g.landed
  gated := h.gated.trans g.gated
  underruns := h.underruns.trans g.underruns
  stalls := h.stalls.trans g.stalls
  advices := h.advices.trans g.advices
  unheeded := h.unheeded.trans g.unheeded
  upSwitches := h.upSwitches.trans g.upSwitches
  downSwitches := h.downSwitches.trans g.downSwitches
  holds := h.holds.trans g.holds
  rejections := h.rejections.trans g.rejections
  refusals := h.refusals.trans g.refusals
  dwellTime k := (h.dwellTime k).trans (g.dwellTime k)

/-- Saturation lowers nothing that is in range. -/
theorem le_saturatingAdd {top x : Nat} (h : x ≤ top) (k : Nat) : x ≤ saturatingAdd top x k := le_min (Nat.le_add_right x k) h

/-- A tally in range does not fall when it grows, and the others stay as they were (R150). -/
theorem tallies_le_grow {t : Tallies} (h : TalliesInRange t) (kind : TallyKind) (k : Nat) :
    TalliesLe t (growTallies t kind k) := by
  have same := TalliesLe.refl t
  cases kind
  case landed => exact { same with landed := le_saturatingAdd h.landed k }
  case gated => exact { same with gated := le_saturatingAdd h.gated k }
  case underruns => exact { same with underruns := le_saturatingAdd h.underruns k }
  case stalls => exact { same with stalls := le_saturatingAdd h.stalls k }
  case advices => exact { same with advices := le_saturatingAdd h.advices k }
  case unheeded => exact { same with unheeded := le_saturatingAdd h.unheeded k }
  case upSwitches => exact { same with upSwitches := le_saturatingAdd h.upSwitches k }
  case downSwitches => exact { same with downSwitches := le_saturatingAdd h.downSwitches k }
  case holds => exact { same with holds := le_saturatingAdd h.holds k }
  case rejections => exact { same with rejections := le_saturatingAdd h.rejections k }
  case refusals => exact { same with refusals := le_saturatingAdd h.refusals k }
  case dwellTime rung =>
    simp only [growTallies]
    split
    · refine { same with dwellTime := fun j => ?_ }
      simp only [Fin.getElem_fin, Vector.getElem_set]
      split
      · rename_i here
        subst here
        exact le_saturatingAdd (h.dwellTime j) k
      · exact le_rfl
    · exact same

theorem TalliesGrown.le {a b : Tallies} (h : TalliesGrown a b) (range : TalliesInRange a) : TalliesLe a b := by
  induction h with
  | same => exact .refl a
  | grow g kind k ih => exact ih.trans (tallies_le_grow (g.inRange range) kind k)

/-- From `s` to `t` the tallies have only grown. -/
def Grown (s t : State) : Prop := TalliesGrown s.eru.tallies t.eru.tallies

/-- What leaves the tallies alone lets them only grow. -/
theorem Grown.of_eq {s t : State} (h : t.eru.tallies = s.eru.tallies) : Grown s t := by
  rw [Grown, h]; exact .same

theorem Grown.refl (s : State) : Grown s s := .of_eq rfl

theorem Grown.trans {s t u : State} (h : Grown s t) (g : Grown t u) : Grown s u := TalliesGrown.trans h g

/-- An operation under which tallies only grow does so over a list. -/
theorem Grown.foldl {α : Type} {f : State → α → State} (h : ∀ s a, Grown s (f s a)) (l : List α) (s : State) :
    Grown s (l.foldl f s) := by
  induction l generalizing s with
  | nil => exact .refl s
  | cons a l ih => exact (h s a).trans (ih _)

theorem grown_growTally (s : State) (kind : TallyKind) (k : Nat) : Grown s (growTally s kind k) := .grow .same kind k

theorem grown_reportEvent (s : State) (e : Event) (kind : TallyKind) : Grown s (reportEvent s e kind) := .grow .same kind 1

theorem grown_setPosition (s : State) (p : Position) (x : PositionState) : Grown s (s.setPosition p x) :=
  .of_eq (congrArg Eru.tallies (State.setPosition_eru s p x))

theorem grown_reportRejection (s : State) (p : Position) (reason : RejectReason) : Grown s (reportRejection s p reason) :=
  grown_reportEvent s _ _

theorem grown_takeSnapshot (s : State) : Grown s (takeSnapshot s) := .of_eq (by simp only [takeSnapshot])

/-! ### Samples and slots (R44 to R48) -/

theorem grown_takeSample (s : State) (x : Sample) : Grown s (takeSample s x) := by
  unfold takeSample
  split
  · exact grown_growTally s _ _
  · refine .of_eq ?_
    simp only [takePassedSample, countWarmup, reevaluateCongestion_eq]

theorem grown_consume (s : State) (n : Fin 8) : Grown s (consume s n) := by
  rw [consume_eq]
  split
  · exact grown_reportEvent (freeSlot s n) _ _
  · exact .of_eq rfl

theorem grown_landRead (s : State) (n : Fin 8) : Grown s (landRead s n) := by
  unfold landRead
  dsimp only
  split
  · exact .refl s
  · have credited (x : Slot) (kind : TallyKind) (k : Nat) : Grown s ((growTally s kind k).setSlot n x) := grown_growTally s _ _
    split
    · exact (credited _ _ _).trans (grown_consume _ n)
    · exact credited _ _ _

theorem grown_landIfFull (s : State) (n : Fin 8) : Grown s (landIfFull s n) := by
  unfold landIfFull
  split
  · have sampled : Grown s (takeSample (landedTable s n) (sampleOf (s.slot n) s.now)) := grown_takeSample (landedTable s n) _
    rw [land_eq]
    exact (sampled.trans (grown_growTally _ _ _)).trans (grown_landRead _ n)
  · exact .refl s

theorem grown_fillObservation (s : State) (n : Fin 8) (low fillEnd : Nat) : Grown s (fillObservation s n low fillEnd) := by
  rw [fillObservation_eq]
  split
  · exact grown_landIfFull (countedFill s n fillEnd) n
  · exact .refl s

theorem grown_drainObservation (s : State) (n : Fin 8) (drainEnd : Nat) : Grown s (drainObservation s n drainEnd) := by
  unfold drainObservation
  split
  · unfold drainUnlanded
    dsimp only
    split
    · exact grown_reportEvent s _ _
    · exact .refl s
  split
  · unfold drainLanded
    dsimp only
    split
    · exact .refl s
    have credited (x : Slot) (kind : TallyKind) (k : Nat) : Grown s (growTally (s.setSlot n x) kind k) := grown_growTally s _ _
    split
    · exact (credited _ _ _).trans (grown_consume _ n)
    · exact credited _ _ _
  · exact .refl s

theorem grown_declareLength (s : State) (n : Fin 8) (v : Nat) : Grown s (declareLength s n v) := by
  unfold declareLength
  dsimp only
  split
  · exact grown_landIfFull (raiseFlag (s.setSlot n _) .overfill) n
  · exact grown_landIfFull (s.setSlot n _) n

/-! ### Decisions (R97 to R111) -/

theorem grown_noteRung (s : State) (rung : Nat) : Grown s (noteRung s rung) := by
  unfold noteRung
  dsimp only
  split
  · exact .refl s
  · exact grown_reportEvent s _ _

theorem grown_capFitGo (s : State) (q : Request) (rung : Nat) : Grown s (capFitGo s q rung).2 := by
  obtain ⟨-, hd⟩ | ⟨n, -, -, hd⟩ | ⟨n, k, e, -, -, hd⟩ := capFitGo_cases s q rung
  · rw [hd]; exact grown_growTally s _ _
  · rw [hd]; exact grown_growTally s _ _
  · rw [hd]; exact grown_noteRung (allocate s n q k e) k

theorem grown_decideFetch (s : State) (q : Request) : Grown s (decideFetch s q).2 := by
  obtain hd | ⟨kind, hd⟩ | ⟨-, hd⟩ := decideFetch_state_cases s q
  · rw [hd]; exact .refl s
  · rw [hd]; exact grown_growTally s _ _
  · rw [hd]; exact grown_capFitGo s q _

theorem grown_decideLength (s : State) (q : Request) : Grown s (decideLength s q).2 := by
  unfold decideLength
  split
  · exact grown_growTally s _ _
  split
  · exact .refl s
  split
  · exact .refl s
  split
  · exact .refl s
  · exact grown_declareLength s _ _

theorem grown_decideDrop (s : State) (q : Request) : Grown s (decideDrop s q).2 := by
  unfold decideDrop
  split <;> exact .refl s

theorem grown_decideRefetch (s : State) (q : Request) (old : Slot) : Grown s (decideRefetch s q old).2 := by
  unfold decideRefetch
  split
  · exact grown_growTally s _ _
  split
  · exact grown_growTally s _ _
  · exact grown_capFitGo s q _

theorem grown_decideReplace (s : State) (q : Request) : Grown s (decideReplace s q).2 := by
  unfold decideReplace
  split
  case h_1 | h_2 | h_3 => exact .refl s
  all_goals
    split
    · exact .refl s
    split
    · exact grown_growTally s _ _
    · exact grown_decideRefetch (freeSlot s _) q _

theorem grown_decideRequest (s : State) (q : Request) : Grown s (decideRequest s q).2 := by
  unfold decideRequest
  split
  · exact grown_decideFetch s q
  split
  · exact grown_decideLength s q
  split
  · exact grown_decideDrop s q
  split
  · exact grown_decideReplace s q
  · exact grown_growTally s _ _

theorem grown_requestRun (s : State) (k : Fin 16) (bytes : List (Nat × Byte)) : Grown s (requestRun s k bytes) := by
  unfold requestRun closeTicket
  dsimp only
  split
  · split
    · exact .refl s
    split
    · exact .refl s
    · exact grown_decideRequest (shadowRequest s k bytes) _
  · exact .refl s

/-! ### Expiries (R120 to R126, R136) -/

theorem grown_settleExpires (s : State) (p : Position) : Grown s (settleExpires s p) := by
  unfold settleExpires
  dsimp only
  split
  · exact (grown_setPosition s p _).trans (grown_reportRejection _ p _)
  · exact grown_setPosition s p _

theorem grown_advise (s : State) (n : Fin 8) : Grown s (advise s n) := grown_reportEvent s _ _

theorem grown_checkExpires (s : State) (n : Fin 8) : Grown s (checkExpires s n) := by
  unfold checkExpires
  dsimp only
  split
  · split
    · exact grown_advise s n
    · exact .refl s
  · exact .refl s

theorem grown_stallExpires (s : State) (n : Fin 8) : Grown s (stallExpires s n) := by
  have marked : Grown s (reportEvent ((s.setTimers n { s.timers n with stall := none }).setSlot n
      { s.slot n with stalled := true }) .stall .stalls) := grown_reportEvent s _ _
  unfold stallExpires
  dsimp only
  split
  · exact marked.trans (grown_advise _ n)
  · exact marked

theorem grown_graceExpires (s : State) (n : Fin 8) : Grown s (graceExpires s n) := grown_reportEvent s _ _

theorem grown_slotExpiries (s : State) (n : Fin 8) : Grown s (slotExpiries s n) := by
  have stall : Grown s (stallIfDue s n) := by
    unfold stallIfDue
    split
    · exact grown_stallExpires s n
    · exact .refl s
  have check (t : State) : Grown t (checkIfDue t n) := by
    unfold checkIfDue
    split
    · exact grown_checkExpires t n
    · exact .refl t
  have grace (t : State) : Grown t (graceIfDue t n) := by
    unfold graceIfDue
    split
    · exact grown_graceExpires t n
    · exact .refl t
  exact (stall.trans (check _)).trans (grace _)

theorem grown_takeDueExpiries (s : State) : Grown s (takeDueExpiries s) := by
  obtain ⟨l, k, -, settled⟩ := settleExpiries_eq s
  have settle : Grown s (settleExpiries s) := by
    rw [settled]; exact Grown.foldl grown_settleExpires l s
  exact settle.trans (Grown.foldl grown_slotExpiries allSlots _)

/-! ### Time and directives (R5 to R12, R33) -/

theorem grown_tickTime (s : State) : Grown s (tickTime s) := .refl s

theorem grown_refclkTime (s : State) : Grown s (refclkTime s) := by
  unfold refclkTime
  split <;> exact .refl s

theorem grown_seedEstimates (s : State) (rate : BitVec 32) : Grown s (seedEstimates s rate) := by
  unfold seedEstimates
  dsimp only
  split
  · rw [reevaluateCongestion_eq]; exact .refl s
  · rw [clearCongestion_eq]; exact .refl s

theorem grown_takeArm (s : State) (entry : Nat) : Grown s (takeArm s entry) := by
  unfold takeArm
  split <;> exact .refl s

theorem grown_takeSuspend (s : State) (entry : Nat) : Grown s (takeSuspend s entry) := by
  unfold takeSuspend
  split <;> exact .refl s

theorem grown_takeResume (s : State) (entry : Nat) : Grown s (takeResume s entry) := by
  unfold takeResume
  split <;> exact .refl s

theorem grown_takeTeardown (s : State) (entry : Nat) : Grown s (takeTeardown s entry) := by
  unfold takeTeardown
  split <;> exact .refl s

theorem grown_takeFlush (s : State) : Grown s (takeFlush s) := .refl s

theorem grown_ackFlags (s : State) (mask : BitVec 32) : Grown s (ackFlags s mask) := .refl s

theorem grown_setEnables (s : State) (mask : BitVec 32) : Grown s (setEnables s mask) := .refl s

theorem grown_noteDirective (s : State) (code : Byte) (entry : Nat) (reason : DirectiveReason) :
    Grown s (noteDirective s code entry reason) := .refl s

/-! ### Control records other than DIRECTIVE (R135 to R138) -/

theorem grown_rejectRecord (s : State) (p : Position) (reason : RejectReason) : Grown s (rejectRecord s p reason) :=
  (grown_setPosition s p _).trans (grown_reportRejection _ p reason)

/-- Adopting a record that holds no directives touches no tally. -/
theorem grown_adoptRecord {p : Position} (hp : p ≠ .directive) (s : State) : Grown s (adoptRecord s p) := by
  cases p
  case setup => rw [adoptRecord_setup]; exact .refl s
  case ladder | windows =>
    rw [adoptRecord, afterAdoption, readinessTest_eq]
    exact .refl s
  case directive => exact absurd rfl hp

theorem grown_evaluate {p : Position} (hp : p ≠ .directive) (s : State) : Grown s (evaluate s p) := by
  unfold evaluate
  dsimp only
  split
  · exact grown_setPosition s p _
  split
  · exact grown_setPosition s p _
  split
  · exact grown_setPosition s p _
  split
  · exact grown_rejectRecord s p _
  split
  · exact grown_rejectRecord s p _
  · exact grown_adoptRecord hp s

/-! ### Runs (R19) -/

/-- A property that every run keeps that starts at one of the bytes is kept by a whole observation (R19). -/
theorem handRuns_keeps_from {P : State → Prop} {take : Area → List (Nat × Byte) → State → State} {bytes : List (Nat × Byte)}
    (h : ∀ ab ∈ bytes, ∀ run s, P s → P (take (s.areaAt ab.1) run s)) (fuel : Nat) {s : State} (hs : P s) :
    P (handRuns take fuel bytes s) := by
  induction fuel generalizing bytes s with
  | zero => exact hs
  | succ fuel ih =>
    cases bytes with
    | nil => exact hs
    | cons ab rest =>
      refine ih (fun cd hcd => ?_) (h ab List.mem_cons_self _ s hs)
      exact h cd (List.mem_cons_of_mem _ ((List.dropWhile_sublist _).subset hcd))

/-- Only a run in the DIRECTIVE position can lower a tally. -/
theorem grown_takeWriteRun {area : Area} (ha : area ≠ .control .directive) (fills : Bool) (run : List (Nat × Byte)) (s : State) :
    Grown s (takeWriteRun fills area run s) := by
  cases area
  case control p => exact grown_evaluate (fun hp => ha (congrArg Area.control hp)) (captureBytes s _)
  case request k => exact grown_requestRun s k _
  case window n =>
    simp only [takeWriteRun]
    split
    · exact grown_fillObservation s n _ _
    · exact .refl s
  all_goals exact .refl s

theorem grown_takeReadRun (drains : Bool) (area : Area) (run : List (Nat × Byte)) (s : State) :
    Grown s (takeReadRun drains area run s) := by
  cases area
  case window n =>
    simp only [takeReadRun]
    split
    · exact grown_drainObservation s n _
    · exact .refl s
  all_goals exact .refl s

/-- Which bytes fall in the DIRECTIVE position hangs on the page base alone (R20). -/
theorem areaAt_directive_of_pif {s t : State} (hp : t.pif = s.pif) {a : Nat} (h : t.areaAt a = .control .directive) :
    s.areaAt a = .control .directive := by
  obtain ⟨page, -⟩ := areaAt_of_page h nofun nofun
  exact (areaAt_congr_page hp.symm page).trans h

end Sys2Proof.Machine
end

section
/-! PROOF. Transactions and whole commands under which tallies only grow (O55). -/

namespace Sys2Proof.Machine

theorem grown_whenReleased {event : State → State} (h : ∀ s, Grown s (event s)) (s : State) :
    Grown s (whenReleased s event) := by
  unfold whenReleased
  split
  · exact .refl s
  · exact (grown_takeDueExpiries s).trans (h _)

theorem grown_expiryStep {event : State → State} (h : ∀ s, Grown s (event s)) (due : State → Bool) (s : State) :
    Grown s (expiryStep s due event) := by
  unfold expiryStep
  split
  · exact .refl s
  split
  · exact h s
  · exact .refl s

/-- A write lowers no tally when none of its bytes falls in the DIRECTIVE position. -/
theorem grown_observeWrite {s : State} {w : BusWrite}
    (h : ∀ ab ∈ strobedBytes w, s.areaAt ab.1 ≠ .control .directive) : Grown s (observeWrite s w) := by
  have each : ∀ ab ∈ strobedBytes w, ∀ run t, Grown s t ∧ t.pif = s.pif →
      Grown s (takeWriteRun (s.fillMatches w.tag) (t.areaAt ab.1) run t)
        ∧ (takeWriteRun (s.fillMatches w.tag) (t.areaAt ab.1) run t).pif = s.pif := by
    rintro ab hab run t ⟨grown, pif⟩
    have elsewhere : t.areaAt ab.1 ≠ .control .directive := fun ha => h ab hab (areaAt_directive_of_pif pif ha)
    exact ⟨grown.trans (grown_takeWriteRun elsewhere _ run t), (kept_takeWriteRun _ _ run t).pif.trans pif⟩
  exact (handRuns_keeps_from each _ ⟨.refl s, rfl⟩).1

theorem grown_writeTransaction {s : State} {w : BusWrite}
    (h : ∀ ab ∈ strobedBytes w, s.areaAt ab.1 ≠ .control .directive) : Grown s (writeTransaction s w) := by
  unfold writeTransaction whenReleased
  split
  · exact .refl s
  · have pif : (takeDueExpiries (forwardWrite s w)).pif = s.pif := (kept_takeDueExpiries (forwardWrite s w)).pif
    have before : Grown s (takeDueExpiries (forwardWrite s w)) := grown_takeDueExpiries (forwardWrite s w)
    exact before.trans (grown_observeWrite fun ab hab ha => h ab hab (areaAt_directive_of_pif pif ha))

theorem grown_readReleased (s : State) (r : ReadResponse) : Grown s (readReleased s r) := by
  have snapshot (bytes : List (Nat × Byte)) : Grown s (snapshotIfHeader s bytes) := by
    unfold snapshotIfHeader
    split
    · exact grown_takeSnapshot s
    · exact .refl s
  unfold readReleased
  split
  · exact .refl s
  · have observed : Grown s (observeRead s r) :=
      handRuns_keeps (P := Grown s) (fun _ _ t ht => ht.trans (grown_takeReadRun _ _ _ t)) _ _ (snapshot _)
    exact observed

theorem grown_readTransaction (s : State) (r : ReadResponse) : Grown s (readTransaction s r) := by
  unfold readTransaction
  split
  · exact .refl s
  · exact (grown_takeDueExpiries s).trans (grown_readReleased _ r)

theorem grown_releaseReset (s : State) (pageBase : BitVec 28) (prescaler : BitVec 16) (revision : Byte) :
    Grown s (releaseReset s pageBase prescaler revision) := grown_takeSnapshot _

/-- Under every command but the resets, CLEAR_TALLIES and a write into the DIRECTIVE position tallies only grow (R150). -/
theorem grown_exec {c : Instr} {s t : State} (ht : exec c s = .next t)
    (writes : ∀ w, writeOf c = some w → ∀ ab ∈ strobedBytes w, s.areaAt ab.1 ≠ .control .directive)
    (hardware : c ≠ .hardwareReset) (restart : c ≠ .restart) (clear : c ≠ .clearTallies) : Grown s t := by
  cases hw : writeOf c with
  | some w =>
    rw [exec_of_writeOf hw] at ht
    cases ht; exact grown_writeTransaction (writes w hw)
  | none =>
    cases hr : readOf c with
    | some r =>
      rw [exec_of_readOf hr] at ht
      cases ht; exact grown_readTransaction s r
    | none =>
      cases c
      case hardwareReset => exact absurd rfl hardware
      case restart => exact absurd rfl restart
      case clearTallies => exact absurd rfl clear
      case rstRelease b p v =>
        cases ht
        split
        · exact grown_releaseReset s b p v
        · exact .refl s
      case tick => cases ht; exact grown_whenReleased grown_tickTime s
      case refclkPeriod => cases ht; exact grown_whenReleased grown_refclkTime s
      case arm entry => cases ht; exact grown_whenReleased (fun u => grown_takeArm u entry) s
      case suspend entry => cases ht; exact grown_whenReleased (fun u => grown_takeSuspend u entry) s
      case resume entry => cases ht; exact grown_whenReleased (fun u => grown_takeResume u entry) s
      case flush => cases ht; exact grown_whenReleased grown_takeFlush s
      case teardown entry => cases ht; exact grown_whenReleased (fun u => grown_takeTeardown u entry) s
      case seed rate => cases ht; exact grown_whenReleased (fun u => grown_seedEstimates u rate) s
      case ack mask => cases ht; exact grown_whenReleased (fun u => grown_ackFlags u mask) s
      case enable mask => cases ht; exact grown_whenReleased (fun u => grown_setEnables u mask) s
      case unknownDirective code entry => cases ht; exact grown_whenReleased (fun u => grown_noteDirective u code entry _) s
      case settleExpiry p => cases ht; exact grown_expiryStep (fun u => grown_settleExpires u p) _ s
      case stallExpiry n => cases ht; exact grown_expiryStep (fun u => grown_stallExpires u n) _ s
      case checkExpiry n => cases ht; exact grown_expiryStep (fun u => grown_checkExpires u n) _ s
      case graceExpiry n => cases ht; exact grown_expiryStep (fun u => grown_graceExpires u n) _ s
      all_goals simp [writeOf, readOf] at hw hr

/-- Settles O55. Tallies that only grow fall nowhere, and saturate within their range. -/
theorem talliesOnlyGrow : Obligations.TalliesOnlyGrow := by
  unfold Obligations.TalliesOnlyGrow
  intro c s t range ht writes hardware restart clear
  have grown : TalliesGrown s.eru.tallies t.eru.tallies := grown_exec ht writes hardware restart clear
  obtain ⟨landed, gated, underruns, stalls, advices, unheeded, up, down, holds, rejections, refusals, dwell⟩ := grown.le range
  exact ⟨landed, gated, underruns, stalls, advices, unheeded, up, down, holds, rejections, refusals, dwell,
    grown.inRange range⟩

end Sys2Proof.Machine
end

section
/-! PROOF. One step runs the waiting command that came first (O1), and every command answers a next state, with the queue of waiting
commands as it was (O2). -/

namespace Sys2Proof.Machine

/-! ### One step (O1) -/

theorem step_of_cons {s : State} {c : Instr} {q : List Instr} (front : s.pending = c :: q) :
    step s = exec c { s with pending := q } := by
  rw [step, front]

theorem step_of_nil {s : State} (empty : s.pending = []) : step s = .next s := by
  rw [step, empty]

/-- Settles O1. -/
theorem stepRunsTheFrontCommand : Obligations.StepRunsTheFrontCommand := by
  unfold Obligations.StepRunsTheFrontCommand
  exact ⟨fun _ _ _ => step_of_cons, fun _ => step_of_nil⟩

/-! ### What commands leave of the queue of waiting commands (O2) -/

/-- No arm of `exec` ends in a fault or a refusal. -/
theorem exec_answers (c : Instr) (s : State) : ∃ t, exec c s = .next t := by
  cases c <;> exact ⟨_, rfl⟩

@[simp] theorem tickTime_pending (s : State) : (tickTime s).pending = s.pending := rfl

@[simp] theorem refclkTime_pending (s : State) : (refclkTime s).pending = s.pending := by
  unfold refclkTime
  split
  · rfl
  · exact tickTime_pending s

/-- An event that leaves the queue alone does so with the expiries that are taken before it. -/
theorem whenReleased_pending {event : State → State} (h : ∀ s, (event s).pending = s.pending) (s : State) :
    (whenReleased s event).pending = s.pending := by
  unfold whenReleased
  split
  · rfl
  · exact (h _).trans (kept_takeDueExpiries s).pending

/-- Whatever kind of event a command is, the commands that wait still wait after it (notes/assumptions/10.md). -/
theorem CommandLeaves.pending {s t : State} (left : CommandLeaves s t) : t.pending = s.pending := by
  cases left with
  | idle => rfl
  | write w => exact (kept_writeTransaction s w).pending
  | read r => exact (kept_readTransaction s r).pending
  | assertReset => rfl
  | releaseReset _ pageBase prescaler revision => exact takeSnapshot_pending _
  | tick => exact whenReleased_pending tickTime_pending s
  | refclkPeriod => exact whenReleased_pending refclkTime_pending s
  | entry code argument entry => exact (kept_whenReleased (fun u => kept_takeEntry u code argument entry) s).pending
  | restart => exact (kept_whenReleased kept_takeRestart s).pending
  | unknownEntry code entry => exact (kept_whenReleased (fun u => kept_noteDirective u code entry .unknown) s).pending
  | settleExpiry p => exact (kept_expiryStep (fun u => kept_settleExpires u p) _ s).pending
  | stallExpiry n => exact (kept_expiryStep (fun u => kept_stallExpires u n) _ s).pending
  | checkExpiry n => exact (kept_expiryStep (fun u => kept_checkExpires u n) _ s).pending
  | graceExpiry n => exact (kept_expiryStep (fun u => kept_graceExpires u n) _ s).pending

/-- Settles O2. The answered state is one of those a command can leave, and none of them touches the queue. -/
theorem commandsCompleteAndKeepTheQueue : Obligations.CommandsCompleteAndKeepTheQueue := by
  unfold Obligations.CommandsCompleteAndKeepTheQueue
  intro c s
  obtain ⟨t, answered⟩ := exec_answers c s
  exact ⟨t, answered, (exec_leaves answered).pending⟩

end Sys2Proof.Machine
end
